-- ==== Sys2Proof/Word.lean ====
section
/-! DEFINITION. The word types of XLPP (00_scope.md R1, section 5). -/
namespace Sys2Proof

/-- One event word, `W[31:0]` (30_encoding.md R70). -/
abbrev EventWord := BitVec 32

/-- A sample: an unsigned 16-bit value (00_scope.md R1). -/
abbrev Sample := BitVec 16

/-- A profiler duration or result: a u32 in abstract cycles (00_scope.md R1, 46_profiler.md). -/
abbrev Cycles := BitVec 32

/-- A halfword address of the buffer space, `{bank[1:0], idx[6:0]}` (20_memory.md R51). -/
abbrev BufAddr := BitVec 9

end Sys2Proof
end

