-- ==== Sys2Proof/Config.lean ====
section
/-! DEFINITION. The open parameters of 00_scope.md R2 and the free values of the spec, as constants with no body. -/
namespace Sys2Proof.Config

/-- NEST_MAX less one; `none` is the spec's "unbounded" (00_scope.md R2; log 6). -/
opaque nestMaxPred : Option Nat

/-- NEST_MAX: a positive bound on the invocation stack, or `none` for no bound (00_scope.md R2). -/
def nestMax : Option Nat := nestMaxPred.map (· + 1)

/-- How far the period of a rate index lies above the least value its place in the table allows (log 7). -/
opaque ratePeriodGap : Nat → Nat

/-- RATE_PERIOD by index: positive and strictly increasing whatever the gaps are (00_scope.md R2, 70 R311). -/
def ratePeriod : Nat → Nat
  | 0 => ratePeriodGap 0 + 1
  | n + 1 => ratePeriod n + ratePeriodGap (n + 1) + 1

/-- BLINK_PERIOD less one (00_scope.md R2; log 8). -/
opaque blinkPeriodPred : Nat

/-- BLINK_PERIOD: a positive duration (00_scope.md R2, 70_reset_and_hazards.md R314). -/
def blinkPeriod : Nat := blinkPeriodPred + 1

/-- The byte order of a host that views the buffers as bytes (00_scope.md R2, 20_memory.md R55). -/
inductive ByteOrder where
  | little
  | big
  deriving DecidableEq, Repr, Inhabited

/-- HOST_BYTE_ORDER (00_scope.md R2; log 9). -/
opaque hostByteOrder : ByteOrder

/-- The n-th trial duration of the external counter: a free u32 draw (46_profiler.md R230; log 4). -/
opaque freeTrial : Nat → Cycles

/-- The level of TEL_ERR at the n-th observation of a fatal blink: a free draw (60_exceptions.md R254; log 8). -/
opaque blinkLevel : Nat → Bool

end Sys2Proof.Config
end

