-- ==== Sys2Proof/Syntax.lean ====
section
/-! DEFINITION. The event words as syntax: one constructor of `Instr` per row of spec/opcode_table.json. -/
namespace Sys2Proof

/-- The buffer labels A (code 0) and B (code 1) (00_scope.md section 5). -/
inductive Label where
  | A
  | B
  deriving DecidableEq, Repr

/-- The pipeline mode, codes 0 to 3 in this order (10_state.md R12); `none` is the spec's NONE, "no mode". -/
inductive Mode where
  | polling
  | interrupt
  | blockDMA
  | none
  deriving DecidableEq, Repr

/-- The SEL field of XRD (30_encoding.md R75): `cap` = 0, the `in` buffer; `pb` = 1, the `out` buffer. -/
inductive Sel where
  | cap
  | pb
  deriving DecidableEq, Repr

/-- The twelve event words (30_encoding.md R71), in the order of the opcode table. -/
inductive Instr where
  /-- CFG, 41_control.md R100. -/
  | cfg (mode : Mode) (rate : BitVec 4) (src : BitVec 2) (len : BitVec 3)
  /-- RUN, 41_control.md R103. -/
  | run
  /-- TICK, 41_control.md R105. -/
  | tick (v : Sample)
  /-- BPOLL, 45_block_consumer.md R200. -/
  | bpoll
  /-- PTRIG, 42_polling.md R130. -/
  | ptrig
  /-- CDONE, 42_polling.md R131. -/
  | cdone (x : Sample)
  /-- SDONE, 41_control.md R106. -/
  | sdone (y : Sample)
  /-- XRD, 45_block_consumer.md R203. -/
  | xrd (sel : Sel) (idx : BitVec 7)
  /-- XWR, 45_block_consumer.md R204. -/
  | xwr (idx : BitVec 7) (v : Sample)
  /-- BDONE, 45_block_consumer.md R205. -/
  | bdone
  /-- MEAS_S, 46_profiler.md R230. -/
  | measS
  /-- MEAS_B, 46_profiler.md R231. -/
  | measB
  deriving DecidableEq, Repr

/-- The agents that deliver event words (00_scope.md R5). -/
inductive Agent where
  | host
  | foreground
  | timingSource
  | adc
  | transformEngine
  deriving DecidableEq, Repr

end Sys2Proof
end

