-- ==== Sys2Proof/WellFormed.lean ====
section
/-! DEFINITION. Which 32-bit words spell an event: the opcode table as rows of a mask and a pattern (30_encoding.md R71,
R81, R82; spec/opcode_table.json). Every operand of `Instr` has exactly the width of its field (R72 to R77), so every
`Instr` can be encoded and what can be ill-formed is the word. -/
namespace Sys2Proof

/-- One row of the opcode table: a word is of the row when its bits under `mask` are `pattern`. -/
structure OpRow where
  mnemonic : String
  mask     : EventWord
  pattern  : EventWord
  deriving DecidableEq, Repr

/-- spec/opcode_table.json, row by row. -/
def opRows : List OpRow :=
  [ ⟨"CFG",    0xF001FFFF#32, 0x10000000#32⟩,
    ⟨"RUN",    0xFFFFFFFF#32, 0x20000000#32⟩,
    ⟨"TICK",   0xFFFF0000#32, 0x30000000#32⟩,
    ⟨"BPOLL",  0xFFFFFFFF#32, 0x40000000#32⟩,
    ⟨"PTRIG",  0xFFFFFFFF#32, 0x50000000#32⟩,
    ⟨"CDONE",  0xFFFF0000#32, 0x60000000#32⟩,
    ⟨"SDONE",  0xFFFF0000#32, 0x70000000#32⟩,
    ⟨"XRD",    0xFFFFFF00#32, 0x80000000#32⟩,
    ⟨"XWR",    0xFF800000#32, 0x90000000#32⟩,
    ⟨"BDONE",  0xFFFFFFFF#32, 0xA0000000#32⟩,
    ⟨"MEAS_S", 0xFFFFFFFF#32, 0xB0000000#32⟩,
    ⟨"MEAS_B", 0xFFFFFFFF#32, 0xB0000001#32⟩ ]

/-- The word is of the row. -/
def OpRow.covers (r : OpRow) (w : EventWord) : Bool := w &&& r.mask == r.pattern

/-- The word spells an event: some row of the table covers it (30_encoding.md R83). -/
def wordWellFormed (w : EventWord) : Bool := opRows.any (·.covers w)

/-- The mnemonic of an event, as spec/opcode_table.json spells it. -/
def Instr.mnemonic : Instr → String
  | .cfg _ _ _ _ => "CFG"
  | .run => "RUN"
  | .tick _ => "TICK"
  | .bpoll => "BPOLL"
  | .ptrig => "PTRIG"
  | .cdone _ => "CDONE"
  | .sdone _ => "SDONE"
  | .xrd _ _ => "XRD"
  | .xwr _ _ => "XWR"
  | .bdone => "BDONE"
  | .measS => "MEAS_S"
  | .measB => "MEAS_B"

end Sys2Proof
end

