-- ==== Sys2Proof/Decode.lean ====
section
/-! DEFINITION. Decoding and encoding of event words (30_encoding.md R70 to R77, R81 to R83). -/
namespace Sys2Proof

/-- Why a word spells no event. Both are the spec's `IllegalWord`: the operation code is reserved (R82), or a bit that
must be zero is set (R81). -/
inductive IllegalWord where
  | reservedOp (op : BitVec 4)
  | reservedBits (op : BitVec 4)
  deriving DecidableEq, Repr

/-- The MODE field, codes 0 to 3 (10_state.md R12). -/
def modeOfBits (b : BitVec 2) : Mode :=
  match b.toNat with
  | 0 => .polling
  | 1 => .interrupt
  | 2 => .blockDMA
  | _ => .none

/-- The code of a mode (10_state.md R12). -/
def bitsOfMode : Mode → BitVec 2
  | .polling => 0
  | .interrupt => 1
  | .blockDMA => 2
  | .none => 3

/-- The SEL field of XRD (R75). -/
def selOfBits (b : BitVec 1) : Sel := if b = 0 then .cap else .pb

/-- The code of a SEL value (R75). -/
def bitsOfSel : Sel → BitVec 1
  | .cap => 0
  | .pb => 1

/-- The event `i` where the bits that must be zero are zero, and otherwise no event (R81). -/
def ifZero {n : Nat} (reserved : BitVec n) (op : BitVec 4) (i : Instr) : Except IllegalWord Instr :=
  if reserved = 0 then .ok i else .error (.reservedBits op)

/-- `decode(W)` of 30_encoding.md R83: total, each word one row of the opcode map or illegal. -/
def decode (w : EventWord) : Except IllegalWord Instr :=
  let op : BitVec 4 := w.extractLsb 31 28
  match op.toNat with
  | 0x1 => ifZero (w.extractLsb 16 0) op
      (.cfg (modeOfBits (w.extractLsb 27 26)) (w.extractLsb 25 22) (w.extractLsb 21 20) (w.extractLsb 19 17))
  | 0x2 => ifZero (w.extractLsb 27 0) op .run
  | 0x3 => ifZero (w.extractLsb 27 16) op (.tick (w.extractLsb 15 0))
  | 0x4 => ifZero (w.extractLsb 27 0) op .bpoll
  | 0x5 => ifZero (w.extractLsb 27 0) op .ptrig
  | 0x6 => ifZero (w.extractLsb 27 16) op (.cdone (w.extractLsb 15 0))
  | 0x7 => ifZero (w.extractLsb 27 16) op (.sdone (w.extractLsb 15 0))
  | 0x8 => ifZero (w.extractLsb 27 8) op (.xrd (selOfBits (w.extractLsb 7 7)) (w.extractLsb 6 0))
  | 0x9 => ifZero (w.extractLsb 27 23) op (.xwr (w.extractLsb 22 16) (w.extractLsb 15 0))
  | 0xA => ifZero (w.extractLsb 27 0) op .bdone
  | 0xB => ifZero (w.extractLsb 27 1) op (if w.extractLsb 0 0 = 0 then .measS else .measB)
  | _ => .error (.reservedOp op)

/-- The word of an event, field beside field from bit 31 down (30_encoding.md R72 to R77). -/
def encode : Instr → EventWord
  | .cfg mode rate src len => 0x1#4 ++ bitsOfMode mode ++ rate ++ src ++ len ++ 0#17
  | .run => 0x2#4 ++ 0#28
  | .tick v => 0x3#4 ++ 0#12 ++ v
  | .bpoll => 0x4#4 ++ 0#28
  | .ptrig => 0x5#4 ++ 0#28
  | .cdone x => 0x6#4 ++ 0#12 ++ x
  | .sdone y => 0x7#4 ++ 0#12 ++ y
  | .xrd sel idx => 0x8#4 ++ 0#20 ++ bitsOfSel sel ++ idx
  | .xwr idx v => 0x9#4 ++ 0#5 ++ idx ++ v
  | .bdone => 0xA#4 ++ 0#28
  | .measS => 0xB#4 ++ 0#28
  | .measB => 0xB#4 ++ 0#27 ++ 1#1

/-- The event word made of the `nbits` low bits of `w`, the bits above them zero. -/
def tableWord (nbits w : Nat) : EventWord := BitVec.ofNat 32 (w % 2 ^ nbits)

/-- What the decoder reads from the bits `w`, numbered as spec/opcode_table.json numbers them. A length above 32 bits
spells nothing: no other length than 32 exists (R70). -/
def decodeTableWord (nbits w : Nat) : Option Instr :=
  if nbits ≤ 32 then (decode (tableWord nbits w)).toOption else none

end Sys2Proof
end

