-- ==== Sys2Proof/Machine/State.lean ====
section
/-! DEFINITION. The state of XLPP (10_state.md R10 to R34) as plain data, the reasons of its outcomes, and reset (R42). -/
namespace Sys2Proof.Machine

/-- CST, the controller state, codes 0 to 3 in this order (10_state.md R11). -/
inductive CtrlState where
  | unconf
  | configured
  | running
  | fatal
  deriving DecidableEq, Repr

/-- FG, the foreground state, codes 0 to 6 in this order (10_state.md R26). Code 7 is unused and has no constructor
(log 10). -/
inductive Foreground where
  | none
  | pTrig
  | pConv
  | pXf
  | iWait
  | bPoll
  | bBusy
  deriving DecidableEq, Repr

/-- The causes of the fatal state, codes 1 to 5 in this order (60_exceptions.md R251). -/
inductive FatalCause where
  | inputSource
  | bufferLength
  | modeNone
  | noLength
  | rateIndex
  deriving DecidableEq, Repr

/-- Why the environment must not deliver an event: the closed list of 60_exceptions.md R263. -/
inductive RefuseReason where
  | illegalWord
  | reconfigure
  | alreadyRunning
  | foregroundBusy
  | notRunning
  | noTimingSource
  | wrongMode
  | outOfOrder
  | noInvocation
  deriving DecidableEq, Repr

/-- Why the model faults: the closed list of 60_exceptions.md R262. -/
inductive FaultReason where
  | nestOverflow
  | bufferIndex
  deriving DecidableEq, Repr

/-- The output events (10_state.md R41). -/
inductive OutEvent where
  | dacOut (v : Sample)
  | convStart (src : BitVec 2)
  | sreq (x : Sample)
  | breq (l : Label)
  | capDone (l : Label)
  | drainSwap (l : Label)
  deriving DecidableEq, Repr

/-- What the environment can deliver: an event word (30_encoding.md R70), the reset pin, or power-on
(70_reset_and_hazards.md R290). -/
inductive Input where
  | word (w : EventWord)
  | rst
  | powerOn
  deriving DecidableEq, Repr

/-- The complete state of the block: exactly the tuple of 10_state.md R10. -/
structure BlockState where
  /-- CST (R11). -/
  cst : CtrlState
  /-- FCAUSE (R16): 0, or a code of 60_exceptions.md R251. -/
  fcause : BitVec 3
  /-- MODE (R12). -/
  mode : Mode
  /-- RATE (R13). -/
  rate : BitVec 4
  /-- SRC (R14): 0 Primary, 1 Auxiliary. -/
  src : BitVec 2
  /-- LEN (R15). -/
  len : BitVec 3
  /-- CAP_A, CAP_B, PB_A and PB_B (R18, R19): the buffer space as a sparse list of halfword address and value. -/
  mem : List (Nat × Sample)
  /-- CAP_W (R20). -/
  capW : Label
  /-- CAP_R (R21). -/
  capR : Label
  /-- PB_W (R22). -/
  pbW : Label
  /-- PB_R (R23): the playback buffer being drained. -/
  pbR : Label
  /-- FILL_IDX (R24). -/
  fillIdx : BitVec 8
  /-- DRAIN_IDX (R25). -/
  drainIdx : BitVec 8
  /-- FG (R26). -/
  fg : Foreground
  /-- BLBL (R27). -/
  blbl : Label
  /-- PSAMPLE (R28). -/
  psample : Sample
  /-- GUARD, the ReentrancyGuard (R29). -/
  guard : Bool
  /-- ISTACK (R30), the innermost invocation last. -/
  istack : List Sample
  /-- OVR, sticky (R31). -/
  ovr : Bool
  /-- RDATA (R32). -/
  rdata : Sample
  /-- MRES (R33). -/
  mres : Cycles
  /-- FAULTED, a model mark (R34). -/
  faulted : Bool
  /-- REFUSED, a model mark (R34). -/
  refused : Bool
  /-- CAP_RACE, a model mark (R34). -/
  capRace : Bool
  /-- PB_RACE, a model mark (R34). -/
  pbRace : Bool
  deriving DecidableEq, Repr

/-- What a step works on: the block's state, and beside it what the model records of the block's surroundings (logs 2, 3
and 4). None of the three is state of the block. -/
structure State extends BlockState where
  /-- The model's own: the inputs the environment will deliver, the next one first (60_exceptions.md R265; log 2). -/
  pending : List Input
  /-- The model's own record: the output trace, "an observation and not state", oldest first (R10, R41; log 3). -/
  trace : List OutEvent
  /-- The model's own: how many free trial durations have been drawn (46_profiler.md R230; log 4). -/
  draws : Nat
  deriving DecidableEq, Repr

/-- A stop of the model. Both are SAFE: they arise only in states that 10_state.md R44 excludes, where the spec gives the
event no meaning (log 11). Faults of the spec itself (R260) are next states with the mark FAULTED (log 5). -/
inductive Fault where
  /-- TICK, XRD or XWR in a RUNNING BlockDMA state with LEN 0, 6 or 7: N is not defined there (10_state.md R15). -/
  | lengthUndefined
  /-- TICK or SDONE in a RUNNING state with MODE = NONE: no rule is dispatched to (41_control.md R105, R106). -/
  | modeUndefined
  deriving DecidableEq, Repr

/-- A refusal of the model, for instructions without a meaning. SAFE; no arm of `exec` answers with it. Refusals of the
spec itself (R261) are next states with the mark REFUSED (log 5). -/
inductive Refusal where
  /-- The instruction has no meaning in this model yet. -/
  | notModelled (mnemonic : String)
  deriving DecidableEq, Repr

/-- What a step answers. -/
abbrev StepOutcome := Host.Outcome State Fault Refusal

/-- The state after power-on: every value of 10_state.md R42, and the model's own fields empty (logs 2, 3, 4). -/
def State.reset : State where
  cst := .unconf
  fcause := 0
  mode := .none
  rate := 0
  src := 0
  len := 0
  mem := []
  capW := .A
  capR := .B
  pbW := .B
  pbR := .A
  fillIdx := 0
  drainIdx := 0
  fg := .none
  blbl := .A
  psample := 0
  guard := false
  istack := []
  ovr := false
  rdata := 0
  mres := 0
  faulted := false
  refused := false
  capRace := false
  pbRace := false
  pending := []
  trace := []
  draws := 0

end Sys2Proof.Machine
end

