-- ==== Sys2Proof/Machine/Operands.lean ====
section
/-! DEFINITION. Codes, field values and addresses: 00_scope.md section 5, 10_state.md R11, R15, R26, 20_memory.md R51,
30_encoding.md R84. -/
namespace Sys2Proof.Machine

/-- The code of a label: A = 0, B = 1. -/
def labelCode : Label → BitVec 1
  | .A => 0
  | .B => 1

/-- `other(L)`. -/
def other : Label → Label
  | .A => .B
  | .B => .A

/-- The code of CST (R11). -/
def ctrlCode : CtrlState → BitVec 2
  | .unconf => 0
  | .configured => 1
  | .running => 2
  | .fatal => 3

/-- The code of FG (R26). -/
def foregroundCode : Foreground → BitVec 3
  | .none => 0
  | .pTrig => 1
  | .pConv => 2
  | .pXf => 3
  | .iWait => 4
  | .bPoll => 5
  | .bBusy => 6

/-- The FCAUSE code of a cause (60_exceptions.md R251). -/
def causeCode : FatalCause → BitVec 3
  | .inputSource => 1
  | .bufferLength => 2
  | .modeNone => 3
  | .noLength => 4
  | .rateIndex => 5

/-- `validSRC` (30_encoding.md R84). -/
def validSrc (s : BitVec 2) : Bool := s == 0 || s == 1

/-- `validRATE` (R84). -/
def validRate (r : BitVec 4) : Bool := decide (r.toNat ≤ 8)

/-- `validMODE` (R84), checked at RUN only. -/
def validMode : Mode → Bool
  | .polling | .interrupt | .blockDMA => true
  | .none => false

/-- `len in 1..5` (41_control.md R100). -/
def validLen (l : BitVec 3) : Bool := decide (1 ≤ l.toNat) && decide (l.toNat ≤ 5)

/-- `decodeN` (R84): the buffer length of a LEN code, `none` where N is not defined (codes 0, 6 and 7). -/
def decodeN (l : BitVec 3) : Option Nat :=
  match l.toNat with
  | 1 => some 8
  | 2 => some 16
  | 3 => some 32
  | 4 => some 64
  | 5 => some 128
  | _ => none

/-- N of the configured machine (10_state.md R15). -/
def State.bufLen (s : State) : Option Nat := decodeN s.len

/-- `capbank(L)` (20_memory.md R51). -/
def capBank : Label → BitVec 2
  | .A => 0
  | .B => 1

/-- `pbbank(L)` (R51). -/
def pbBank : Label → BitVec 2
  | .A => 2
  | .B => 3

/-- `buf(bank, i) = {bank[1:0], i[6:0]}` (R51). -/
def bufAddr (bank : BitVec 2) (i : BitVec 7) : BufAddr := bank ++ i

/-- The address of `CAP_[L][i]`. -/
def capAddr (l : Label) (i : BitVec 7) : BufAddr := bufAddr (capBank l) i

/-- The address of `PB_[L][i]`. -/
def pbAddr (l : Label) (i : BitVec 7) : BufAddr := bufAddr (pbBank l) i

/-- `i[6:0]` of an 8-bit index register (R51). -/
def idxBits (i : BitVec 8) : BitVec 7 := i.setWidth 7

/-- Where TICK's capture write goes (20_memory.md R53). -/
def State.captureAddr (s : State) : BufAddr := capAddr s.capW (idxBits s.fillIdx)

/-- Where TICK's drain read reads (20_memory.md R53). -/
def State.drainAddr (s : State) : BufAddr := pbAddr s.pbR (idxBits s.drainIdx)

/-- Where XRD reads (20_memory.md R53, 45_block_consumer.md R203). -/
def State.readAddr (s : State) (sel : Sel) (idx : BitVec 7) : BufAddr :=
  match sel with
  | .cap => capAddr s.blbl idx
  | .pb => pbAddr s.blbl idx

/-- Where XWR writes (20_memory.md R53, 45_block_consumer.md R204). -/
def State.writeAddr (s : State) (idx : BitVec 7) : BufAddr := pbAddr s.blbl idx

/-- The FG value with which a run of a mode starts (41_control.md R103); there is none for NONE. -/
def startForeground : Mode → Foreground
  | .polling => .pTrig
  | .interrupt => .iWait
  | .blockDMA => .bPoll
  | .none => .none

/-- The agent that delivers an event (00_scope.md R5, 30_encoding.md R71). -/
def agentOf : Instr → Agent
  | .cfg _ _ _ _ => .host
  | .run => .host
  | .tick _ => .timingSource
  | .bpoll => .foreground
  | .ptrig => .foreground
  | .cdone _ => .adc
  | .sdone _ => .transformEngine
  | .xrd _ _ => .transformEngine
  | .xwr _ _ => .transformEngine
  | .bdone => .transformEngine
  | .measS => .host
  | .measB => .host

/-- The agent that delivers an input (00_scope.md R5). RST is the host's pin, and power-on is RST and more
(70_reset_and_hazards.md R290; log 14). A word that spells no event (30_encoding.md R81, R82) is no agent's event. -/
def agentOfInput : Input → Option Agent
  | .word w => (decode w).toOption.map agentOf
  | .rst => some .host
  | .powerOn => some .host

/-- The agent whose step is next (00_scope.md R5). -/
def State.nextAgent (s : State) : Option Agent := s.pending.head?.bind agentOfInput

end Sys2Proof.Machine
end

