-- ==== Sys2Proof/Machine/Ops.lean ====
section
/-! DEFINITION. The shared operations: buffer space, output trace, the outcomes of a step with the fatal entry, reset,
run start, and the entry and return of Interrupt mode. -/
namespace Sys2Proof.Machine

/-! ## The buffer space (20_memory.md R50 to R54) -/

/-- How many halfwords the buffer space has (R50). -/
def bufSpace : Nat := 512

/-- What a halfword that the list does not name holds: the reset contents, 0 (10_state.md R42). -/
def unlisted : Sample := 0

/-- The value stored at a halfword address. -/
def memLookup : List (Nat × Sample) → Nat → Sample
  | [], _ => unlisted
  | (k, x) :: m, a => if k = a then x else memLookup m a

/-- The memory with `v` at address `a`, in canonical form again. -/
def memStore : List (Nat × Sample) → Nat → Sample → List (Nat × Sample)
  | [], a, v => if v = unlisted then [] else [(a, v)]
  | (k, x) :: m, a, v =>
    if a < k then (if v = unlisted then (k, x) :: m else (a, v) :: (k, x) :: m)
    else if a = k then (if v = unlisted then m else (a, v) :: m)
    else (k, x) :: memStore m a v

/-- The canonical form from address `lo` up: addresses rise strictly below 512, and no entry is the unlisted value. -/
def memWfFrom (lo : Nat) : List (Nat × Sample) → Bool
  | [] => true
  | (k, x) :: m => decide (lo ≤ k) && decide (k < bufSpace) && decide (x ≠ unlisted) && memWfFrom (k + 1) m

/-- The canonical form of the memory. -/
def memWf (m : List (Nat × Sample)) : Bool := memWfFrom 0 m

/-- `MemRead(addr, 2)` (R52). -/
def State.memRead (s : State) (a : BufAddr) : Sample := memLookup s.mem a.toNat

/-- `MemWrite(addr, 2, v)` (R52). -/
def State.memWrite (s : State) (a : BufAddr) (v : Sample) : State := { s with mem := memStore s.mem a.toNat v }

/-- The clear port (R53): `for a in 0..511: MemWrite(a, 2, 0)`, which leaves nothing listed. -/
def State.memClear (s : State) : State := { s with mem := [] }

/-- `MemWrite(a, 2, 0)` for every halfword address below `k`: the clear port as its loop (41_control.md R100). -/
def State.memZeroBelow (s : State) : Nat → State
  | 0 => s
  | k + 1 => (s.memZeroBelow k).memWrite (BitVec.ofNat 9 k) 0

/-- Elements 0 to n-1 of `CAP_[L]`. -/
def State.capContents (s : State) (l : Label) (n : Nat) : List Sample :=
  (List.range n).map fun i => s.memRead (capAddr l (BitVec.ofNat 7 i))

/-- Elements 0 to n-1 of `PB_[L]`. -/
def State.pbContents (s : State) (l : Label) (n : Nat) : List Sample :=
  (List.range n).map fun i => s.memRead (pbAddr l (BitVec.ofNat 7 i))

/-- The byte that a byte-addressed host sees at byte address `b`: half of halfword `b / 2`, in the order the host uses
(20_memory.md R55); no byte beyond the 1024 of the buffer space. -/
def hostByteIn (order : Config.ByteOrder) (s : State) (b : Nat) : Option (BitVec 8) :=
  if b < 2 * bufSpace then
    let h := s.memRead (BitVec.ofNat 9 (b / 2))
    let high := match order with
      | .little => b % 2 == 1
      | .big => b % 2 == 0
    some (if high then h.extractLsb 15 8 else h.extractLsb 7 0)
  else none

/-- The byte view in the order of the parameter HOST_BYTE_ORDER (R55). -/
def State.hostByte (s : State) (b : Nat) : Option (BitVec 8) := hostByteIn Config.hostByteOrder s b

/-! ## Output and registers -/

/-- `emit PORT(v)` (00_scope.md section 5, 10_state.md R41). -/
def State.emit (s : State) (e : OutEvent) : State := { s with trace := s.trace ++ [e] }

/-- `FG <- f`. -/
def State.setFg (s : State) (f : Foreground) : State := { s with fg := f }

/-! ## The outcomes of a step (00_scope.md section 5) -/

/-- What the rule of an event says of a state: the spec's outcomes, each with its reason; `undefined` is for states the
spec excludes (log 11). -/
inductive Result where
  /-- `next state`. -/
  | ok (s : State)
  /-- The event is accepted in FATAL and has no effect (60_exceptions.md R252). -/
  | ignored
  /-- `raise Fatal(cause)` (R250). -/
  | fatal (c : FatalCause)
  /-- `refuse <Reason>` (R261). -/
  | refuse (r : RefuseReason)
  /-- `fault <Reason>` (R260). -/
  | fault (r : FaultReason)
  /-- The spec gives the event no meaning in this state. -/
  | undefined (f : Fault)
  deriving DecidableEq, Repr

/-- The fatal entry: `FCAUSE <- c`, `CST <- FATAL`, and nothing else (R250). -/
def State.raiseFatal (s : State) (c : FatalCause) : State := { s with fcause := causeCode c, cst := .fatal }

/-- `REFUSED <- 1`, the rest as before (R261). -/
def State.markRefused (s : State) : State := { s with refused := true }

/-- `FAULTED <- 1`, the rest as before (R260). -/
def State.markFaulted (s : State) : State := { s with faulted := true }

/-- What each outcome of a rule makes of the state (R250, R252, R260, R261). -/
def settle (s : State) : Result → StepOutcome
  | .ok t => .next t
  | .ignored => .next s
  | .fatal c => .next (s.raiseFatal c)
  | .refuse _ => .next s.markRefused
  | .fault _ => .next s.markFaulted
  | .undefined f => .fault f

/-- The checks with which every run-time event begins: ignored in FATAL, NotRunning before RUN (30_encoding.md R85). -/
def whenRunning (s : State) (body : Result) : Result :=
  match s.cst with
  | .fatal => .ignored
  | .running => body
  | _ => .refuse .notRunning

/-- The checks of an event that belongs to one mode: those of `whenRunning`, then WrongMode (R85). -/
def inMode (m : Mode) (s : State) (body : Result) : Result :=
  whenRunning s (if s.mode = m then body else .refuse .wrongMode)

/-- Continue with N, which the rules read only where it is defined (10_state.md R15). -/
def withLen (s : State) (body : Nat → Result) : Result :=
  match s.bufLen with
  | some n => body n
  | none => .undefined .lengthUndefined

/-! ## Reset and run start -/

/-- RST: every piece of state to its value in 10_state.md R42, the marks FAULTED and REFUSED unchanged, no output
(70_reset_and_hazards.md R290). The model's own fields stay. -/
def State.rst (s : State) : State :=
  { State.reset with
    faulted := s.faulted, refused := s.refused, pending := s.pending, trace := s.trace, draws := s.draws }

/-- Power-on: RST, and the marks FAULTED and REFUSED cleared (R290). -/
def State.powerOn (s : State) : State := { s.rst with faulted := false, refused := false }

/-- `RUN_INIT` (41_control.md R104). -/
def State.runInit (s : State) : State :=
  { s with
    capW := .A, capR := .B, pbW := .B, pbR := .A, fillIdx := 0, drainIdx := 0,
    guard := false, istack := [], ovr := false, psample := 0, blbl := .A, capRace := false, pbRace := false }

/-! ## Handler entry and return of Interrupt mode (60_exceptions.md R268, R269) -/

/-- Entry: the invocation's sample is pushed as the innermost, and the SampleTransform is requested (43_interrupt.md
R150). -/
def State.enterInvocation (s : State) (v : Sample) : State := { s with istack := s.istack ++ [v] }.emit (.sreq v)

/-- Return: the innermost invocation leaves, and its result is output (43_interrupt.md R154). -/
def State.leaveInvocation (s : State) (y : Sample) : State := { s with istack := s.istack.dropLast }.emit (.dacOut y)

/-- The next input leaves the list of pending ones. -/
def State.takeInput (s : State) : State := { s with pending := s.pending.tail }

end Sys2Proof.Machine
end

