-- ==== Sys2Proof/Machine/Flags.lean ====
section
/-! DEFINITION. The status bits (10_state.md R35) and the levels derived from them (R40; 60_exceptions.md R254, R266,
R277). -/
namespace Sys2Proof.Machine

/-- The guard's test and set: `if GUARD = 1: OVR <- 1`, then `GUARD <- 1` (43_interrupt.md R150, R151; 20_memory.md
R62). -/
def State.testAndSetGuard (s : State) : State := { s with ovr := s.ovr || s.guard, guard := true }

/-- `GUARD <- 0`, whatever the nesting (43_interrupt.md R154, R155). -/
def State.clearGuard (s : State) : State := { s with guard := false }

/-- CAP_RACE is set when the capture write targets the buffer under access (44_block_producer.md R179). -/
def State.markCapRace (s : State) : State :=
  { s with capRace := s.capRace || (decide (s.fg = .bBusy) && decide (s.capW = s.blbl)) }

/-- PB_RACE is set when the drain reads the buffer under access (44_block_producer.md R179). -/
def State.markPbRace (s : State) : State :=
  { s with pbRace := s.pbRace || (decide (s.fg = .bBusy) && decide (s.pbR = s.blbl)) }

/-- TEL_ACT, "processing active" (10_state.md R40). -/
def State.telAct (s : State) : Bool :=
  decide (s.cst = .running) &&
    ((decide (s.mode = .polling) && decide (s.fg = .pXf)) ||
     (decide (s.mode = .interrupt) && !s.istack.isEmpty) ||
     (decide (s.mode = .blockDMA) && decide (s.fg = .bBusy)))

/-- TEL_ERR when the blink is at level `blink`: the blink in FATAL, else OVR (R40). -/
def State.telErrAt (s : State) (blink : Bool) : Bool := if s.cst = .fatal then blink else s.ovr

/-- TEL_ERR at the k-th observation: in FATAL a free draw at each observation (60_exceptions.md R254; log 8). -/
def State.telErr (s : State) (k : Nat) : Bool := s.telErrAt (Config.blinkLevel k)

/-- TEL_DRAIN, which buffer is draining (R40). -/
def State.telDrain (s : State) : BitVec 1 :=
  if s.cst = .running ∧ s.mode = .blockDMA then labelCode s.pbR else 0

/-- The timing source runs only while RUNNING in Interrupt or BlockDMA mode (60_exceptions.md R266). -/
def State.timingSourceOn (s : State) : Bool :=
  decide (s.cst = .running) && (decide (s.mode = .interrupt) || decide (s.mode = .blockDMA))

/-- The period of the running timing source, `RATE_PERIOD[RATE]` (10_state.md R13); no rule reads it. -/
def State.tickPeriod (s : State) : Option Nat :=
  if s.timingSourceOn && validRate s.rate then some (Config.ratePeriod s.rate.toNat) else none

/-- A capture buffer is ready for the consumer: `CAP_W = CAP_R` (45_block_consumer.md R201). -/
def State.bufferReady (s : State) : Bool := decide (s.capW = s.capR)

/-- The block may be in a low-power wait: in Interrupt mode, and in BlockDMA mode while a poll would find nothing
(60_exceptions.md R277). -/
def State.mayWait (s : State) : Bool :=
  decide (s.cst = .running) &&
    ((decide (s.mode = .interrupt) && decide (s.fg = .iWait)) ||
     (decide (s.mode = .blockDMA) && decide (s.fg = .bPoll) && !s.bufferReady))

end Sys2Proof.Machine
end

