-- ==== Sys2Proof/Machine/Consumer.lean ====
section
/-! DEFINITION. BlockDMA mode, the consumer: BPOLL, XRD, XWR and BDONE (45_block_consumer.md). -/
namespace Sys2Proof.Machine

/-- The grant: `BLBL <- other(CAP_R)`, `FG <- B_BUSY`, `emit BREQ(BLBL)` (45_block_consumer.md R200, R202). -/
def State.grant (s : State) : State := ({ s with blbl := other s.capR }.setFg .bBusy).emit (.breq (other s.capR))

/-- BPOLL (45_block_consumer.md R200, R201). -/
def bpollRule (s : State) : Result :=
  inMode .blockDMA s <|
    if s.fg ≠ .bPoll then .refuse .outOfOrder
    else if s.bufferReady then .ok s.grant
    else .ok s

/-- The checks of an engine access: a grant is outstanding, and the index is below N (45_block_consumer.md R203, R204). -/
def engineAccess (s : State) (idx : BitVec 7) (body : Result) : Result :=
  inMode .blockDMA s <|
    if s.fg ≠ .bBusy then .refuse .noInvocation
    else withLen s fun n => if n ≤ idx.toNat then .fault .bufferIndex else body

/-- XRD (45_block_consumer.md R203). -/
def xrdRule (sel : Sel) (idx : BitVec 7) (s : State) : Result :=
  engineAccess s idx (.ok { s with rdata := s.memRead (s.readAddr sel idx) })

/-- XWR (45_block_consumer.md R204). -/
def xwrRule (idx : BitVec 7) (v : Sample) (s : State) : Result :=
  engineAccess s idx (.ok (s.memWrite (s.writeAddr idx) v))

/-- The consumer's steps 3 and 4: `CAP_R <- BLBL`, `PB_W <- BLBL`, and the loop iterates again (45_block_consumer.md
R205). -/
def State.publish (s : State) : State := { s with capR := s.blbl, pbW := s.blbl }.setFg .bPoll

/-- BDONE (45_block_consumer.md R205). -/
def bdoneRule (s : State) : Result :=
  inMode .blockDMA s <|
    if s.fg ≠ .bBusy then .refuse .noInvocation
    else .ok s.publish

/-- The meaning of BPOLL. -/
def execBpoll (s : State) : StepOutcome := settle s (bpollRule s)

/-- The meaning of XRD. -/
def execXrd (sel : Sel) (idx : BitVec 7) (s : State) : StepOutcome := settle s (xrdRule sel idx s)

/-- The meaning of XWR. -/
def execXwr (idx : BitVec 7) (v : Sample) (s : State) : StepOutcome := settle s (xwrRule idx v s)

/-- The meaning of BDONE. -/
def execBdone (s : State) : StepOutcome := settle s (bdoneRule s)

end Sys2Proof.Machine
end

