-- ==== Sys2Proof/Machine/Interrupt.lean ====
section
/-! DEFINITION. Interrupt mode: the tick handler's entry and the callback's return (43_interrupt.md). -/
namespace Sys2Proof.Machine

/-- TICK_I under a bound `limit` on the invocation stack (43_interrupt.md R150, R151, R153). -/
def tickInterrupt (limit : Option Nat) (v : Sample) (s : State) : Result :=
  if limit = some s.istack.length then .fault .nestOverflow
  else .ok (s.testAndSetGuard.enterInvocation v)

/-- SDONE_I (43_interrupt.md R154). -/
def sdoneInterrupt (y : Sample) (s : State) : Result :=
  if s.istack = [] then .refuse .noInvocation
  else .ok (s.leaveInvocation y).clearGuard

end Sys2Proof.Machine
end

