-- ==== Sys2Proof/Machine/Polling.lean ====
section
/-! DEFINITION. Polling mode: PTRIG, CDONE and SDONE in Polling (42_polling.md). -/
namespace Sys2Proof.Machine

/-- PTRIG (42_polling.md R130). -/
def ptrigRule (s : State) : Result :=
  inMode .polling s <|
    if s.fg ≠ .pTrig then .refuse .outOfOrder
    else .ok ((s.emit (.convStart s.src)).setFg .pConv)

/-- `PSAMPLE <- x`, `emit SREQ(x)`, `FG <- P_XF` (42_polling.md R131). -/
def State.fetchSample (s : State) (x : Sample) : State := ({ s with psample := x }.emit (.sreq x)).setFg .pXf

/-- CDONE (42_polling.md R131). -/
def cdoneRule (x : Sample) (s : State) : Result :=
  inMode .polling s <|
    if s.fg ≠ .pConv then .refuse .outOfOrder
    else .ok (s.fetchSample x)

/-- SDONE_P (42_polling.md R132). -/
def sdonePolling (y : Sample) (s : State) : Result :=
  if s.fg ≠ .pXf then .refuse .noInvocation
  else .ok ((s.emit (.dacOut y)).setFg .pTrig)

/-- The meaning of PTRIG. -/
def execPtrig (s : State) : StepOutcome := settle s (ptrigRule s)

/-- The meaning of CDONE. -/
def execCdone (x : Sample) (s : State) : StepOutcome := settle s (cdoneRule x s)

end Sys2Proof.Machine
end

