-- ==== Sys2Proof/Machine/Producer.lean ====
section
/-! DEFINITION. BlockDMA mode, the producer: drain phase, capture phase and completion flip (44_block_producer.md). -/
namespace Sys2Proof.Machine

/-- The drain boundary swap: `PB_R <- PB_W`, `DRAIN_IDX <- 0`, `emit DRAIN_SWAP(PB_R)`, when the index has reached N
(44_block_producer.md R172). -/
def State.drainSwapAt (s : State) (n : Nat) : State :=
  if s.drainIdx.toNat = n then { s with pbR := s.pbW, drainIdx := 0 }.emit (.drainSwap s.pbW) else s

/-- One sample of the active playback buffer is emitted, and the index advances (44_block_producer.md R171). -/
def State.drainOne (s : State) : State :=
  { s.emit (.dacOut (s.memRead s.drainAddr)) with drainIdx := s.drainIdx + 1 }

/-- The drain phase (44_block_producer.md R170 to R172, R179). -/
def State.drainPhase (s : State) (n : Nat) : State := (s.drainSwapAt n).markPbRace.drainOne

/-- The tick's sample is written into the capture buffer, and the index advances (44_block_producer.md R173). -/
def State.captureOne (s : State) (v : Sample) : State :=
  { s.memWrite s.captureAddr v with fillIdx := s.fillIdx + 1 }

/-- The completion flip: `emit CAP_DONE(CAP_W)`, `CAP_W <- other(CAP_W)`, `FILL_IDX <- 0`, when the buffer is full
(44_block_producer.md R175). -/
def State.completeAt (s : State) (n : Nat) : State :=
  if s.fillIdx.toNat = n then { s.emit (.capDone s.capW) with capW := other s.capW, fillIdx := 0 } else s

/-- The capture phase (44_block_producer.md R170, R173 to R175, R179). -/
def State.capturePhase (s : State) (n : Nat) (v : Sample) : State := (s.markCapRace.captureOne v).completeAt n

/-- TICK_B (44_block_producer.md R170). An index register outside its range would make an access at an index ≥ N, which
is `fault BufferIndex` (20_memory.md R52; log 12). -/
def tickBlock (v : Sample) (s : State) : Result :=
  withLen s fun n =>
    if n ≤ s.fillIdx.toNat ∨ n < s.drainIdx.toNat then .fault .bufferIndex
    else .ok ((s.drainPhase n).capturePhase n v)

end Sys2Proof.Machine
end

