-- ==== Sys2Proof/Machine/Control.lean ====
section
/-! DEFINITION. Configuration and run control: CFG, RUN, and the dispatch of TICK and SDONE by mode (41_control.md). -/
namespace Sys2Proof.Machine

/-- What a successful CFG writes: the four registers, the cleared buffers, CONFIGURED (41_control.md R100). -/
def State.configure (s : State) (mode : Mode) (rate : BitVec 4) (src : BitVec 2) (len : BitVec 3) : State :=
  { s.memClear with
    mode := mode, rate := rate, src := src, len := if validLen len then len else 0, cst := .configured }

/-- CFG (41_control.md R100, R101). -/
def cfgRule (mode : Mode) (rate : BitVec 4) (src : BitVec 2) (len : BitVec 3) (s : State) : Result :=
  if s.cst = .fatal then .ignored
  else if s.cst ≠ .unconf then .refuse .reconfigure
  else if !validSrc src then .fatal .inputSource
  else if mode = .blockDMA ∧ !validLen len then .fatal .bufferLength
  else if !validRate rate then .fatal .rateIndex
  else .ok (s.configure mode rate src len)

/-- RUN (41_control.md R103). -/
def runRule (s : State) : Result :=
  if s.cst = .fatal then .ignored
  else if s.cst = .running then .refuse .alreadyRunning
  else if !validMode s.mode then .fatal .modeNone
  else .ok { s.runInit with cst := .running, fg := startForeground s.mode }

/-- TICK (41_control.md R105), under a bound `limit` on the invocation stack. -/
def tickRule (limit : Option Nat) (v : Sample) (s : State) : Result :=
  whenRunning s <|
    match s.mode with
    | .polling => .refuse .noTimingSource
    | .interrupt => tickInterrupt limit v s
    | .blockDMA => tickBlock v s
    | .none => .undefined .modeUndefined

/-- SDONE (41_control.md R106). -/
def sdoneRule (y : Sample) (s : State) : Result :=
  whenRunning s <|
    match s.mode with
    | .polling => sdonePolling y s
    | .interrupt => sdoneInterrupt y s
    | .blockDMA => .refuse .wrongMode
    | .none => .undefined .modeUndefined

/-- The meaning of CFG. -/
def execCfg (mode : Mode) (rate : BitVec 4) (src : BitVec 2) (len : BitVec 3) (s : State) : StepOutcome :=
  settle s (cfgRule mode rate src len s)

/-- The meaning of RUN. -/
def execRun (s : State) : StepOutcome := settle s (runRule s)

/-- The meaning of TICK: the bound is NEST_MAX. -/
def execTick (v : Sample) (s : State) : StepOutcome := settle s (tickRule Config.nestMax v s)

/-- The meaning of SDONE. -/
def execSdone (y : Sample) (s : State) : StepOutcome := settle s (sdoneRule y s)

end Sys2Proof.Machine
end

