-- ==== Sys2Proof/Machine/Profiler.lean ====
section
/-! DEFINITION. The latency profiler: the median of 11 trials, MEAS_S and MEAS_B (46_profiler.md). -/
namespace Sys2Proof.Machine

/-- The durations of one set of trials, `t[0..10]` (46_profiler.md; PROFILE_TRIALS = 11, 00_scope.md R1). -/
abbrev Trials := Fin 11 → Cycles

/-- The trials in ascending order: "full sort of the 11-element sample set" (46_profiler.md R232). -/
def sortTrials (t : Trials) : List Cycles := (List.ofFn t).insertionSort (· ≤ ·)

/-- `median11(t)`: the element at index 5 (46_profiler.md R232). -/
def median11 (t : Trials) : Cycles := (sortTrials t).getD 5 0

/-- `(median11(cb) - median11(oh)) mod 2^32` (46_profiler.md R233). -/
def netLatency (oh cb : Trials) : Cycles := median11 cb - median11 oh

/-- Trials taken from the free draws, from draw number `first` on (46_profiler.md R230; log 4). -/
def drawTrials (first : Nat) : Trials := fun i => Config.freeTrial (first + i.val)

/-- `MRES <- (median11(cb) - median11(oh)) mod 2^32`; the 22 draws are used up. -/
def State.measure (s : State) (oh cb : Trials) : State :=
  { s with mres := netLatency oh cb, draws := s.draws + 22 }

/-- The profiler's admission: ignored in FATAL, ForegroundBusy while RUNNING (46_profiler.md R230, R231). -/
def whenIdle (s : State) (body : Result) : Result :=
  match s.cst with
  | .fatal => .ignored
  | .running => .refuse .foregroundBusy
  | _ => body

/-- MEAS_S with given trials (46_profiler.md R230). -/
def measSampleRule (oh cb : Trials) (s : State) : Result := whenIdle s (.ok (s.measure oh cb))

/-- MEAS_B with given trials (46_profiler.md R231). -/
def measBlockRule (oh cb : Trials) (s : State) : Result :=
  whenIdle s (if s.len = 0 then .fatal .noLength else .ok (s.measure oh cb))

/-- The meaning of MEAS_S: the trials are the next 22 free draws, `oh` before `cb`. -/
def execMeasS (s : State) : StepOutcome :=
  settle s (measSampleRule (drawTrials s.draws) (drawTrials (s.draws + 11)) s)

/-- The meaning of MEAS_B: the trials are the next 22 free draws, `oh` before `cb`. -/
def execMeasB (s : State) : StepOutcome :=
  settle s (measBlockRule (drawTrials s.draws) (drawTrials (s.draws + 11)) s)

end Sys2Proof.Machine
end

