-- ==== Sys2Proof/Machine/Dispatch.lean ====
section
/-! DEFINITION. One arm per event word: the meaning of every constructor of `Instr`. -/
namespace Sys2Proof.Machine

/-- What an event does to a state. -/
def exec (i : Instr) (s : State) : Host.Outcome State Fault Refusal :=
  match i with
  | .cfg mode rate src len => Sys2Proof.Machine.execCfg mode rate src len s
  | .run => Sys2Proof.Machine.execRun s
  | .tick v => Sys2Proof.Machine.execTick v s
  | .bpoll => Sys2Proof.Machine.execBpoll s
  | .ptrig => Sys2Proof.Machine.execPtrig s
  | .cdone x => Sys2Proof.Machine.execCdone x s
  | .sdone y => Sys2Proof.Machine.execSdone y s
  | .xrd sel idx => Sys2Proof.Machine.execXrd sel idx s
  | .xwr idx v => Sys2Proof.Machine.execXwr idx v s
  | .bdone => Sys2Proof.Machine.execBdone s
  | .measS => Sys2Proof.Machine.execMeasS s
  | .measB => Sys2Proof.Machine.execMeasB s

end Sys2Proof.Machine
end

