-- ==== Sys2Proof/Machine/Port.lean ====
section
/-! DEFINITION. The event port: how the next pending input is taken and delivered (20_memory.md R50, 30_encoding.md R83,
60_exceptions.md R265, 70_reset_and_hazards.md R290). -/
namespace Sys2Proof.Machine

/-- Deliver one event word: its event runs, or it spells none and is refused in every state (30_encoding.md R81, R82). -/
def deliverWord (w : EventWord) (s : State) : StepOutcome :=
  match decode w with
  | .ok i => exec i s
  | .error _ => settle s (.refuse .illegalWord)

/-- Deliver one input. -/
def deliver (inp : Input) (s : State) : StepOutcome :=
  match inp with
  | .word w => deliverWord w s
  | .rst => .next s.rst
  | .powerOn => .next s.powerOn

/-- One step: the next pending input is taken and delivered; with none pending the block waits, and a wait has no effect
(60_exceptions.md R277, 70_reset_and_hazards.md R305; log 2). -/
def portStep (s : State) : StepOutcome :=
  match s.pending with
  | [] => .next s
  | inp :: _ => deliver inp s.takeInput

/-- The state in which the given word is the very next input to be delivered. -/
def State.withWord (s : State) (w : EventWord) : State := { s with pending := .word w :: s.pending }

end Sys2Proof.Machine
end

