-- ==== Sys2Proof/Machine/Step.lean ====
section
/-! DEFINITION. One step of the machine, and the placing of the next event word. -/
namespace Sys2Proof.Machine

/-- One step: the environment's next input is delivered (00_scope.md R5). -/
def step (s : State) : Host.Outcome State Fault Refusal := portStep s

/-- `s` with the word of the `nbits` low bits of `w` as the very next input (log 15). -/
def State.withFetchWord (s : State) (nbits w : Nat) : State := s.withWord (tableWord nbits w)

end Sys2Proof.Machine
end

