-- ==== Sys2Proof/Machine/Admission.lean ====
section
/-! DEFINITION. The admission table of 30_encoding.md R85, written as the table, beside the outcome that each event's own
rule gives with its reason. -/
namespace Sys2Proof.Machine

/-- The columns of the table. -/
inductive Column where
  | unconf
  | configured
  | polling
  | interrupt
  | blockDMA
  | fatal
  deriving DecidableEq, Repr

/-- An entry of the table: the event's rule applies, the event is ignored, or it is refused. -/
inductive Admission where
  | applies
  | ignored
  | refuse (r : RefuseReason)
  deriving DecidableEq, Repr

/-- The column of a state; a RUNNING state with MODE = NONE is in none. -/
def State.column (s : State) : Option Column :=
  match s.cst, s.mode with
  | .unconf, _ => some .unconf
  | .configured, _ => some .configured
  | .fatal, _ => some .fatal
  | .running, .polling => some .polling
  | .running, .interrupt => some .interrupt
  | .running, .blockDMA => some .blockDMA
  | .running, .none => none

/-- `✓ if <condition>, else <reason>`. -/
def appliesIf (c : Bool) (r : RefuseReason) : Admission := if c then .applies else .refuse r

/-- The row of XRD, XWR and BDONE. -/
def engineRow (c : Column) (s : State) : Admission :=
  match c with
  | .unconf | .configured => .refuse .notRunning
  | .polling | .interrupt => .refuse .wrongMode
  | .blockDMA => appliesIf (s.fg = .bBusy) .noInvocation
  | .fatal => .ignored

/-- A row of a Polling event, admitted at one value of FG. -/
def pollingRow (at_ : Foreground) (c : Column) (s : State) : Admission :=
  match c with
  | .unconf | .configured => .refuse .notRunning
  | .polling => appliesIf (s.fg = at_) .outOfOrder
  | .interrupt | .blockDMA => .refuse .wrongMode
  | .fatal => .ignored

/-- The row of MEAS_S and MEAS_B. -/
def profilerRow (c : Column) : Admission :=
  match c with
  | .unconf | .configured => .applies
  | .polling | .interrupt | .blockDMA => .refuse .foregroundBusy
  | .fatal => .ignored

/-- The admission table (30_encoding.md R85). -/
def admission (i : Instr) (c : Column) (s : State) : Admission :=
  match i with
  | .cfg _ _ _ _ =>
    match c with
    | .unconf => .applies
    | .fatal => .ignored
    | _ => .refuse .reconfigure
  | .run =>
    match c with
    | .unconf | .configured => .applies
    | .fatal => .ignored
    | _ => .refuse .alreadyRunning
  | .measS => profilerRow c
  | .measB => profilerRow c
  | .tick _ =>
    match c with
    | .unconf | .configured => .refuse .notRunning
    | .polling => .refuse .noTimingSource
    | .interrupt | .blockDMA => .applies
    | .fatal => .ignored
  | .ptrig => pollingRow .pTrig c s
  | .cdone _ => pollingRow .pConv c s
  | .sdone _ =>
    match c with
    | .unconf | .configured => .refuse .notRunning
    | .polling => appliesIf (s.fg = .pXf) .noInvocation
    | .interrupt => appliesIf (!s.istack.isEmpty) .noInvocation
    | .blockDMA => .refuse .wrongMode
    | .fatal => .ignored
  | .bpoll =>
    match c with
    | .unconf | .configured => .refuse .notRunning
    | .polling | .interrupt => .refuse .wrongMode
    | .blockDMA => appliesIf (s.fg = .bPoll) .outOfOrder
    | .fatal => .ignored
  | .xrd _ _ => engineRow c s
  | .xwr _ _ => engineRow c s
  | .bdone => engineRow c s

/-- The outcome of an event's own rule, reason included: what `exec` settles. -/
def resultOf (i : Instr) (s : State) : Result :=
  match i with
  | .cfg mode rate src len => cfgRule mode rate src len s
  | .run => runRule s
  | .tick v => tickRule Config.nestMax v s
  | .bpoll => bpollRule s
  | .ptrig => ptrigRule s
  | .cdone x => cdoneRule x s
  | .sdone y => sdoneRule y s
  | .xrd sel idx => xrdRule sel idx s
  | .xwr idx v => xwrRule idx v s
  | .bdone => bdoneRule s
  | .measS => measSampleRule (drawTrials s.draws) (drawTrials (s.draws + 11)) s
  | .measB => measBlockRule (drawTrials s.draws) (drawTrials (s.draws + 11)) s

/-- The outcome, reason included, of delivering a word: IllegalWord where it spells no event (R81, R82). -/
def resultOfWord (w : EventWord) (s : State) : Result :=
  match decode w with
  | .ok i => resultOf i s
  | .error _ => .refuse .illegalWord

end Sys2Proof.Machine
end

