-- ==== Sys2Proof/Machine/TraceSyntax.lean ====
section
/-! DEFINITION. The trace syntax and the pseudo-events (30_encoding.md R86, R87). -/
namespace Sys2Proof.Machine

/-! ## Pseudo-events (R87) -/

/-- One line of an expansion: an event, or `XWR i, RDATA`, whose value is what the preceding XRD left in RDATA. -/
inductive TraceEvent where
  | event (i : Instr)
  | xwrRdata (idx : BitVec 7)
  deriving DecidableEq, Repr

/-- The event that a line of an expansion is, in the state in which it is delivered. -/
def TraceEvent.resolve (s : State) : TraceEvent → Instr
  | .event i => i
  | .xwrRdata idx => .xwr idx s.rdata

/-- The pseudo-events of R87. -/
inductive Pseudo where
  | ticks (k : Nat) (b : Sample)
  | pcycle (x y : Sample)
  | icall (x y : Sample)
  | bxformId
  | bpollIdle
  deriving DecidableEq, Repr

/-- The expansion of a pseudo-event, for a machine with buffers of length `n` (R87). -/
def Pseudo.expand (n : Nat) : Pseudo → List TraceEvent
  | .ticks k b => (List.range k).map fun i => .event (.tick (b + BitVec.ofNat 16 i))
  | .pcycle x y => [.event .ptrig, .event (.cdone x), .event (.sdone y)]
  | .icall x y => [.event (.tick x), .event (.sdone y)]
  | .bxformId =>
    [.event .bpoll]
      ++ (List.range n).flatMap (fun i => [.event (.xrd .cap (BitVec.ofNat 7 i)), .xwrRdata (BitVec.ofNat 7 i)])
      ++ [.event .bdone]
  | .bpollIdle => [.event .bpoll]

/-- Deliver the lines of an expansion one after the other, stopping where a step stops. -/
def runTrace : List TraceEvent → State → StepOutcome
  | [], s => .next s
  | e :: es, s =>
    match exec (e.resolve s) s with
    | .next t => runTrace es t
    | .fault r => .fault r
    | .refused r => .refused r

/-! ## Trace syntax (R86) -/

/-- The value of a digit, up to hexadecimal. -/
def digitValue (c : Char) : Option Nat :=
  if '0' ≤ c ∧ c ≤ '9' then some (c.toNat - '0'.toNat)
  else if 'a' ≤ c ∧ c ≤ 'f' then some (c.toNat - 'a'.toNat + 10)
  else if 'A' ≤ c ∧ c ≤ 'F' then some (c.toNat - 'A'.toNat + 10)
  else none

/-- The number that digits spell in a base, after those already read. -/
def digitsValue (base acc : Nat) : List Char → Option Nat
  | [] => some acc
  | c :: cs =>
    match digitValue c with
    | some d => if d < base then digitsValue base (base * acc + d) cs else none
    | none => none

/-- A number of the trace syntax below `bound`: decimal, or hexadecimal with a `0x` prefix (R86). -/
def numberBelow (bound : Nat) (token : List Char) : Option Nat :=
  let value := match token with
    | [] => none
    | ['0', 'x'] => none
    | '0' :: 'x' :: ds => digitsValue 16 0 ds
    | ds => digitsValue 10 0 ds
  value.filter (· < bound)

/-- The mode names of CFG (R86). -/
def modeNames : List (List Char × Mode) :=
  [("POLL".toList, .polling), ("INTR".toList, .interrupt), ("DMA".toList, .blockDMA), ("MODE3".toList, .none)]

/-- The source names of CFG (R86). -/
def srcNames : List (List Char × BitVec 2) :=
  [("PRI".toList, 0), ("AUX".toList, 1), ("SRC2".toList, 2), ("SRC3".toList, 3)]

/-- The length names of CFG (R86). -/
def lenNames : List (List Char × BitVec 3) :=
  [("NOLEN".toList, 0), ("8".toList, 1), ("16".toList, 2), ("32".toList, 3), ("64".toList, 4), ("128".toList, 5),
   ("LEN6".toList, 6), ("LEN7".toList, 7)]

/-- The buffer names of XRD (R86). -/
def selNames : List (List Char × Sel) := [("CAP".toList, .cap), ("PB".toList, .pb)]

/-- A u16 operand. -/
def sampleOf (token : List Char) : Option Sample := (numberBelow 65536 token).map (BitVec.ofNat 16)

/-- An index operand. -/
def indexOf (token : List Char) : Option (BitVec 7) := (numberBelow 128 token).map (BitVec.ofNat 7)

/-- What a mnemonic and its operand tokens stand for (R86): an event, or the reset pin. -/
def assembleTokens (mnemonic : List Char) (operands : List (List Char)) : Option Input :=
  let event (i : Instr) : Input := .word (encode i)
  match operands with
  | [] =>
    ([("RUN".toList, event .run), ("BPOLL".toList, event .bpoll), ("PTRIG".toList, event .ptrig),
      ("BDONE".toList, event .bdone), ("MEAS.S".toList, event .measS), ("MEAS.B".toList, event .measB),
      ("RST".toList, Input.rst)] : List (List Char × Input)).lookup mnemonic
  | [v] =>
    if mnemonic = "TICK".toList then (sampleOf v).map fun x => event (.tick x)
    else if mnemonic = "CDONE".toList then (sampleOf v).map fun x => event (.cdone x)
    else if mnemonic = "SDONE".toList then (sampleOf v).map fun x => event (.sdone x)
    else none
  | [a, b] =>
    if mnemonic = "XRD".toList then
      (selNames.lookup a).bind fun sel => (indexOf b).map fun i => event (.xrd sel i)
    else if mnemonic = "XWR".toList then
      (indexOf a).bind fun i => (sampleOf b).map fun v => event (.xwr i v)
    else none
  | [m, r, s, l] =>
    if mnemonic = "CFG".toList then
      (modeNames.lookup m).bind fun mode => (numberBelow 16 r).bind fun rate =>
        (srcNames.lookup s).bind fun src => (lenNames.lookup l).map fun len =>
          event (.cfg mode (BitVec.ofNat 4 rate) src len)
    else none
  | _ => none

/-- The tokens of a line: blanks and commas separate them. -/
def tokensOf (token : List Char) : List Char → List (List Char)
  | [] => if token = [] then [] else [token]
  | c :: cs =>
    if c = ' ' ∨ c = ',' then (if token = [] then tokensOf [] cs else token :: tokensOf [] cs)
    else tokensOf (token ++ [c]) cs

/-- One line of a trace (R86), as its characters. -/
def assembleChars (line : List Char) : Option Input :=
  match tokensOf [] line with
  | [] => none
  | mnemonic :: operands => assembleTokens mnemonic operands

/-- One line of a trace (R86). -/
def assemble (line : String) : Option Input := assembleChars line.toList

end Sys2Proof.Machine
end

