-- ==== Sys2Proof/Safety.lean ====
section
/-! DEFINITION. The terms in which claims are made: outcomes of an event, invariants, premises, runs. -/
namespace Sys2Proof.Machine

/-! ## Outcomes of an event -/

/-- The event is refused with the reason: REFUSED is set, and nothing else changes (60_exceptions.md R261). -/
def Refuses (i : Instr) (s : State) (r : RefuseReason) : Prop :=
  resultOf i s = .refuse r ∧ exec i s = .next { s with refused := true }

/-- The event faults with the reason: FAULTED is set, and nothing else changes (60_exceptions.md R260). -/
def Faults (i : Instr) (s : State) (r : FaultReason) : Prop :=
  resultOf i s = .fault r ∧ exec i s = .next { s with faulted := true }

/-- The event raises the fatal cause with this FCAUSE code: FCAUSE and CST are written, and nothing else changes
(60_exceptions.md R250). -/
def RaisesFatal (i : Instr) (s : State) (code : BitVec 3) : Prop :=
  exec i s = .next { s with fcause := code, cst := .fatal }

/-- The run has met neither a fault nor a refusal (60_exceptions.md R260, R261): what a claim about the hardware asks. -/
def State.unmarked (s : State) : Bool := !s.faulted && !s.refused

/-- No race is marked (10_state.md R34). -/
def State.raceFree (s : State) : Bool := !s.capRace && !s.pbRace

/-! ## Invariants -/

/-- FG agrees with MODE while RUNNING, and is FG_NONE otherwise (10_state.md R26). -/
def State.foregroundAgrees (s : State) : Bool :=
  match s.cst, s.mode with
  | .running, .polling => s.fg == .pTrig || s.fg == .pConv || s.fg == .pXf
  | .running, .interrupt => s.fg == .iWait
  | .running, .blockDMA => s.fg == .bPoll || s.fg == .bBusy
  | .running, .none => false
  | _, _ => s.fg == .none

/-- The stack is within NEST_MAX (10_state.md R30). -/
def withinNestMax (depth : Nat) : Prop := ∀ m, Config.nestMax = some m → depth ≤ m

/-- The invariant: the seven items of 10_state.md R44, the agreement of FG (R26), the canonical form of the memory, the
buffers at 0 until RUN (70_reset_and_hazards.md R292), and what makes them inductive: a configuration that CFG has checked (41_control.md R100), and none before CFG. -/
structure State.Inv (s : State) : Prop where
  memory : memWf s.mem = true
  unconfigured : s.cst = .unconf → s.mode = .none
  configured : s.cst = .configured ∨ s.cst = .running →
    validSrc s.src = true ∧ validRate s.rate = true ∧ s.len.toNat ≤ 5 ∧ (s.mode = .blockDMA → validLen s.len = true)
  indices : s.cst = .running → s.mode = .blockDMA →
    ∃ n, s.bufLen = some n ∧ s.fillIdx.toNat < n ∧ s.drainIdx.toNat ≤ n
  runningMode : s.cst = .running → s.mode ≠ .none
  stackBound : withinNestMax s.istack.length
  stackEmpty : s.istack ≠ [] → s.cst = .running ∧ s.mode = .interrupt
  guardStack : s.guard = true → s.istack ≠ []
  causeNone : s.cst ≠ .fatal → s.fcause = 0
  causeSome : s.cst = .fatal → 1 ≤ s.fcause.toNat ∧ s.fcause.toNat ≤ 5
  grantLabel : s.fg = .bBusy → s.blbl = other s.capR
  consumerRoles : s.cst = .running → s.mode = .blockDMA → s.pbW = s.capR
  foreground : s.foregroundAgrees = true
  cleared : s.cst = .unconf ∨ s.cst = .configured → ∀ a, s.memRead a = 0

/-- While no overrun is recorded in a run of Interrupt mode, at most one invocation is outstanding and GUARD says whether
one is (70_reset_and_hazards.md R303). -/
def State.OverrunEvidence (s : State) : Prop :=
  s.cst = .running → s.mode = .interrupt → s.ovr = false →
    (s.istack = [] ∧ s.guard = false) ∨ ∃ v, s.istack = [v] ∧ s.guard = true

/-- The drain has a swap due, or already drains the buffer that the consumer published last. -/
def State.drainClear (s : State) (n : Nat) : Prop := s.drainIdx.toNat = n ∨ s.pbR = s.capR

/-- The role invariant of a BlockDMA run whose consumer keeps the timing premise (45_block_consumer.md R212). The two
indices move in step; no race is marked; a granted buffer is neither filled nor drained. -/
def State.RoleInv (s : State) : Prop :=
  s.cst = .running → s.mode = .blockDMA → ∃ n, s.bufLen = some n ∧
    s.fillIdx.toNat < n ∧
    (s.drainIdx.toNat = s.fillIdx.toNat ∨ (s.fillIdx = 0 ∧ s.drainIdx.toNat = n)) ∧
    s.capRace = false ∧ s.pbRace = false ∧ s.pbW = s.capR ∧
    (s.fg = .bBusy → s.blbl = other s.capR ∧ s.capW = s.capR ∧ s.drainClear n) ∧
    (s.fg = .bPoll → s.capW = s.capR → s.drainClear n)

/-! ## Premises -/

/-- The events that a step from `s` to `t` appended to the output trace. -/
def newEvents (s t : State) : List OutEvent := t.trace.drop s.trace.length

/-- The output event is a CAP_DONE. -/
def OutEvent.isCapDone : OutEvent → Bool
  | .capDone _ => true
  | _ => false

/-- The output event is a BREQ. -/
def OutEvent.isBreq : OutEvent → Bool
  | .breq _ => true
  | _ => false

/-- The timing premise of Block-DMA for one step: no CAP_DONE occurs while FG = B_BUSY (70_reset_and_hazards.md R300). -/
def TimingPremise (s t : State) : Prop := s.fg = .bBusy → (newEvents s t).all (fun e => !e.isCapDone) = true

/-- A SDONE with result `y` follows the sample transform `f` (00_scope.md R3): it answers the sample of the invocation
that returns. -/
def FollowsSampleXform (f : Sample → Sample) (s : State) (y : Sample) : Prop :=
  (s.mode = .polling → y = f s.psample) ∧ (s.mode = .interrupt → ∀ x, s.istack.getLast? = some x → y = f x)

/-- Between the grant state `s` and the return state `t` the engine has followed the block transform `f` (00_scope.md
R3). -/
def FollowsBlockXform (f : List Sample → List Sample → List Sample) (n : Nat) (s t : State) : Prop :=
  t.pbContents s.blbl n = f (s.capContents s.blbl n) (s.pbContents s.blbl n)

/-! ## Runs -/

/-- Deliver events one after the other, stopping where a step stops. -/
def execAll : List Instr → State → StepOutcome
  | [], s => .next s
  | i :: is, s =>
    match exec i s with
    | .next t => execAll is t
    | .fault r => .fault r
    | .refused r => .refused r

/-- The labels of the CAP_DONE events of a trace, oldest first. -/
def capDoneLabels : List OutEvent → List Label
  | [] => []
  | .capDone l :: es => l :: capDoneLabels es
  | _ :: es => capDoneLabels es

/-- The labels of the BREQ events of a trace, oldest first. -/
def breqLabels : List OutEvent → List Label
  | [] => []
  | .breq l :: es => l :: breqLabels es
  | _ :: es => breqLabels es

/-- How many BDONE events of the list are admitted and run, from state `s` on. -/
def admittedBdones : List Instr → State → Nat
  | [], _ => 0
  | i :: is, s =>
    match exec i s with
    | .next t => (if i = .bdone ∧ resultOf i s = .ok t then 1 else 0) + admittedBdones is t
    | _ => 0

/-- `k` labels, alternating, the first being `l`. -/
def alternating : Label → Nat → List Label
  | _, 0 => []
  | l, k + 1 => l :: alternating (other l) k

/-- The states reached from `s` by steps that keep the timing premise (70_reset_and_hazards.md R300). -/
inductive PremisedRun (s : State) : State → Prop where
  | start : PremisedRun s s
  | next {t u : State} : PremisedRun s t → step t = .next u → TimingPremise t u → PremisedRun s u

end Sys2Proof.Machine
end

