-- ==== Sys2Proof/Certificates/Slice0/Obligations.lean ====
section
/-! DEFINITION. The statements for the provers, each from the numbered rules of spec/. -/
open Sys2Proof Sys2Proof.Machine

/-! ## Reset, the event port, encoding -/

/-- 10_state.md R42: RST and power-on, from every state, give every register its reset value; RST keeps the two marks and
power-on clears them. No output event is emitted. -/
def Obligations.ResetSetsEveryRegister : Prop :=
  ∀ (s : State) (inp : Input) (rest : List Input), inp = .rst ∨ inp = .powerOn → s.pending = inp :: rest →
    ∃ t, step s = .next t ∧
      t.cst = .unconf ∧ t.fcause = 0 ∧ t.mode = .none ∧ t.rate = 0 ∧ t.src = 0 ∧ t.len = 0 ∧
      (∀ a, t.memRead a = 0) ∧
      t.capW = .A ∧ t.capR = .B ∧ t.pbW = .B ∧ t.pbR = .A ∧ t.fillIdx = 0 ∧ t.drainIdx = 0 ∧
      t.fg = .none ∧ t.blbl = .A ∧ t.psample = 0 ∧ t.rdata = 0 ∧ t.mres = 0 ∧
      t.guard = false ∧ t.ovr = false ∧ t.istack = [] ∧ t.capRace = false ∧ t.pbRace = false ∧
      (inp = .rst → t.faulted = s.faulted ∧ t.refused = s.refused) ∧
      (inp = .powerOn → t.faulted = false ∧ t.refused = false) ∧
      t.telAct = false ∧ (∀ k, t.telErr k = false) ∧ t.telDrain = 0 ∧
      t.trace = s.trace

/-- 30_encoding.md R83, 00_scope.md R5: a step whose next pending input is a word that decodes to `i` is `exec i`, on the
state with that input taken, and is the step of the agent that delivers `i`. RST and power-on (log 14) are the host's. A
step that is no agent's (a wait, log 2, or a word that spells no event) changes nothing but the refusal mark. -/
def Obligations.StepRunsTheDecodedEvent : Prop :=
  (∀ (s : State) (w : EventWord) (rest : List Input) (i : Instr),
    s.pending = .word w :: rest → decode w = .ok i →
      step s = exec i { s with pending := rest } ∧ s.nextAgent = some (agentOf i)) ∧
  (∀ (s : State) (rest : List Input),
    s.pending = .rst :: rest ∨ s.pending = .powerOn :: rest → s.nextAgent = some .host) ∧
  (∀ s t : State, s.nextAgent = none → step s = .next t →
    t = { s with pending := s.pending.tail, refused := t.refused })

/-- 10_state.md R10: what an event does to the state tuple, and what it outputs, depend on the tuple alone, and for MEAS_S
and MEAS_B on the draws (log 4): neither on the output trace so far, "an observation and not state" (log 3), nor on the
inputs to come (log 2). -/
def Obligations.OutcomeDependsOnTheTupleAlone : Prop :=
  ∀ (i : Instr) (s s' : State), s.toBlockState = s'.toBlockState →
    s.draws = s'.draws ∨ (i ≠ .measS ∧ i ≠ .measB) →
    (∀ t, exec i s = .next t →
      t.pending = s.pending ∧ t.trace = s.trace ++ newEvents s t ∧
      ∃ t', exec i s' = .next t' ∧ t'.toBlockState = t.toBlockState ∧ newEvents s' t' = newEvents s t) ∧
    (∀ r, exec i s = .fault r → exec i s' = .fault r)

/-- 30_encoding.md R81, R82: a word with a bit set that must be zero, or with a reserved OP, is refused with IllegalWord in
every state, FATAL included; REFUSED is all that changes. -/
def Obligations.IllegalWordIsRefusedEverywhere : Prop :=
  ∀ (s : State) (w : EventWord) (rest : List Input), s.pending = .word w :: rest →
    ((wordWellFormed w = false →
        resultOfWord w s = .refuse .illegalWord ∧ step s = .next { s with pending := rest, refused := true }) ∧
     (w.extractLsb 31 28 ∈ [0x0#4, 0xC#4, 0xD#4, 0xE#4, 0xF#4] → wordWellFormed w = false))

/-- 60_exceptions.md R277, 70_reset_and_hazards.md R305 and log 2: with no input delivered the block waits, and nothing
changes. -/
def Obligations.NoInputChangesNothing : Prop :=
  ∀ s : State, s.pending = [] → step s = .next s

/-- Log 15: a word placed by `withFetchWord` is the very next event that runs, on the state as it was. -/
def Obligations.PlacedWordRunsNext : Prop :=
  ∀ (s : State) (nbits w : Nat) (i : Instr),
    decodeTableWord nbits w = some i → step (s.withFetchWord nbits w) = exec i s

/-- 30_encoding.md R72 to R77, R83: decoding the word of an event gives the event, for every event and every operand. -/
def Obligations.DecodeInvertsEncode : Prop :=
  ∀ i : Instr, decode (encode i) = .ok i

/-- 30_encoding.md R83: a word that decodes is the word of the event it decodes to, so no bit is dropped. -/
def Obligations.EncodeInvertsDecode : Prop :=
  ∀ (w : EventWord) (i : Instr), decode w = .ok i → encode i = w

/-- 30_encoding.md R83: every word decodes to exactly one row of the opcode map, or to IllegalWord, in which case no row
covers it. -/
def Obligations.EveryWordIsOneRowOrIllegal : Prop :=
  ∀ w : EventWord,
    (∃ i, decode w = .ok i ∧ (opRows.filter (·.covers w)).map (·.mnemonic) = [i.mnemonic]) ∨
    ((∃ e, decode w = .error e) ∧ opRows.filter (·.covers w) = [])

/-- 30_encoding.md R72 to R77, R86: words written out from the encodings decode to the events they stand for. -/
def Obligations.WrittenWordsDecode : Prop :=
  decode 0x14D00000#32 = .ok (.cfg .interrupt 3 1 0) ∧
  decode 0x1BC20000#32 = .ok (.cfg .blockDMA 15 0 1) ∧
  decode 0x3000FFFC#32 = .ok (.tick 0xFFFC) ∧
  decode 0x80000083#32 = .ok (.xrd .pb 3) ∧
  decode 0x90030104#32 = .ok (.xwr 3 0x0104) ∧
  decode 0xB0000001#32 = .ok .measB ∧
  decode 0xB0000002#32 = .error (.reservedBits 0xB)

/-! ## Invariants of every step -/

/-- The state after power-on meets every invariant stated below. -/
def Obligations.ResetMeetsTheInvariants : Prop :=
  State.reset.Inv ∧ State.reset.OverrunEvidence ∧ State.reset.RoleInv

/-- 10_state.md R44 and R26: every step, whatever the environment delivers, keeps the invariant. -/
def Obligations.StepKeepsTheInvariant : Prop :=
  ∀ s t : State, s.Inv → step s = .next t → t.Inv

/-- The canonical form of the buffer space alone is kept by every step, in every state (logs 1 and 14). -/
def Obligations.StepKeepsMemoryCanonical : Prop :=
  ∀ s t : State, memWf s.mem = true → step s = .next t → memWf t.mem = true

/-- 45_block_consumer.md R212, one step: the role invariant is kept by every step that keeps the timing premise, and where
it holds the granted buffer is not the one being filled, is drained only if a swap is due, and no race is marked. -/
def Obligations.PremisedStepKeepsTheRoleInvariant : Prop :=
  (∀ s t : State, s.Inv → s.RoleInv → step s = .next t → TimingPremise s t → t.RoleInv) ∧
  (∀ s : State, s.RoleInv → s.cst = .running → s.mode = .blockDMA →
    s.capRace = false ∧ s.pbRace = false ∧
    (s.fg = .bBusy → s.capW ≠ s.blbl ∧ (s.bufLen ≠ some s.drainIdx.toNat → s.pbR ≠ s.blbl)))

/-- 45_block_consumer.md R212, the whole run: if no CAP_DONE occurs while FG = B_BUSY, then CAP_W is never the label under
access, and no race is ever marked. -/
def Obligations.PremisedRunIsRaceFree : Prop :=
  ∀ u s t : State, u.Inv → u.cst = .configured → u.mode = .blockDMA → exec .run u = .next s → PremisedRun s t →
    t.cst = .running → t.mode = .blockDMA →
      t.capRace = false ∧ t.pbRace = false ∧ (t.fg = .bBusy → t.capW ≠ t.blbl)

/-- 70_reset_and_hazards.md R303: `OVR = 0` proves that no TICK arrived while an invocation was outstanding since RUN. Every
step keeps the evidence: with OVR = 0 at most one invocation is outstanding, and GUARD says whether one is. OVR is sticky
(10_state.md R31), and from the evidence a TICK that runs with an invocation outstanding ends with OVR = 1, whichever
NEST_MAX is. So in a run of Interrupt mode that has met no fault and has OVR = 0, no TICK found an invocation
outstanding. -/
def Obligations.StepKeepsTheOverrunEvidence : Prop :=
  (∀ s t : State, s.OverrunEvidence → step s = .next t → t.OverrunEvidence) ∧
  (∀ s t : State, s.cst = .running → s.ovr = true → step s = .next t →
    s.pending.head? ≠ some .rst → s.pending.head? ≠ some .powerOn → t.ovr = true) ∧
  (∀ (limit : Option Nat) (v : Sample) (s t : State), s.OverrunEvidence → s.cst = .running → s.mode = .interrupt →
    s.istack ≠ [] → tickRule limit v s = .ok t → t.ovr = true) ∧
  (∀ (before after : List Instr) (v : Sample) (u s m t : State),
    u.cst = .unconf ∨ u.cst = .configured → u.mode = .interrupt → exec .run u = .next s →
    execAll before s = .next m → execAll (.tick v :: after) m = .next t →
    t.faulted = false → t.ovr = false → m.istack = [])

/-! ## Configuration and run control -/

/-- 41_control.md R100, R101: CFG in every state. A valid CFG in UNCONF writes the four registers, zeroes the buffers and
enters CONFIGURED; the checks are SRC, LEN, RATE in that order. -/
def Obligations.CfgFollowsItsRule : Prop :=
  ∀ (m : Mode) (r : BitVec 4) (c : BitVec 2) (l : BitVec 3) (s : State),
    decode (0x1#4 ++ bitsOfMode m ++ r ++ c ++ l ++ 0#17) = .ok (.cfg m r c l) ∧
    (s.cst = .unconf → c.toNat ≤ 1 → (m = .blockDMA → 1 ≤ l.toNat ∧ l.toNat ≤ 5) → r.toNat ≤ 8 →
      ∃ t, exec (.cfg m r c l) s = .next t ∧ (∀ a, t.memRead a = 0) ∧
        t = { s with mode := m, rate := r, src := c, len := if 1 ≤ l.toNat ∧ l.toNat ≤ 5 then l else 0,
                     mem := t.mem, cst := .configured }) ∧
    (s.cst = .fatal → exec (.cfg m r c l) s = .next s) ∧
    (s.cst = .configured ∨ s.cst = .running → Refuses (.cfg m r c l) s .reconfigure) ∧
    (s.cst = .unconf → 2 ≤ c.toNat → RaisesFatal (.cfg m r c l) s 1) ∧
    (s.cst = .unconf → c.toNat ≤ 1 → m = .blockDMA → l.toNat = 0 ∨ 6 ≤ l.toNat → RaisesFatal (.cfg m r c l) s 2) ∧
    (s.cst = .unconf → c.toNat ≤ 1 → (m = .blockDMA → 1 ≤ l.toNat ∧ l.toNat ≤ 5) → 9 ≤ r.toNat →
      RaisesFatal (.cfg m r c l) s 5)

/-- 41_control.md R103, R104: RUN in every state. In UNCONF or CONFIGURED with a mode it writes the run-start state, enters
RUNNING and sets FG by the mode; with MODE = NONE it is fatal. -/
def Obligations.RunFollowsItsRule : Prop :=
  ∀ s : State,
    decode 0x20000000#32 = .ok .run ∧
    (s.cst = .unconf ∨ s.cst = .configured → s.mode ≠ .none →
      ∃ f, exec .run s = .next
          { s with
            capW := .A, capR := .B, pbW := .B, pbR := .A, fillIdx := 0, drainIdx := 0, guard := false, istack := [],
            ovr := false, psample := 0, blbl := .A, capRace := false, pbRace := false, cst := .running, fg := f } ∧
        (s.mode = .polling → f = .pTrig) ∧ (s.mode = .interrupt → f = .iWait) ∧ (s.mode = .blockDMA → f = .bPoll)) ∧
    (s.cst = .fatal → exec .run s = .next s) ∧
    (s.cst = .running → Refuses .run s .alreadyRunning) ∧
    (s.cst = .unconf ∨ s.cst = .configured → s.mode = .none → RaisesFatal .run s 3)

/-- 41_control.md R105, 43_interrupt.md R150, R151, R153: TICK outside BlockDMA. In Interrupt mode with room on the
invocation stack it sets GUARD, records the overrun when GUARD was 1, pushes the sample and requests the transform; at a
bound, whichever NEST_MAX is, it faults. In BlockDMA it is TICK_B. -/
def Obligations.TickOutsideBlockDmaFollowsItsRule : Prop :=
  ∀ (v : Sample) (s : State),
    decode (0x3#4 ++ 0#12 ++ v) = .ok (.tick v) ∧
    (s.cst = .running → s.mode = .blockDMA → exec (.tick v) s = settle s (tickBlock v s)) ∧
    (s.cst = .running → s.mode = .interrupt → Config.nestMax ≠ some s.istack.length →
      exec (.tick v) s = .next
        { s with ovr := if s.guard then true else s.ovr, guard := true, istack := s.istack ++ [v],
                 trace := s.trace ++ [.sreq v] }) ∧
    (∀ limit : Option Nat, s.cst = .running → s.mode = .interrupt → limit = some s.istack.length →
      tickRule limit v s = .fault .nestOverflow ∧ settle s (tickRule limit v s) = .next { s with faulted := true }) ∧
    exec (.tick v) s = settle s (tickRule Config.nestMax v s) ∧
    (s.cst = .running → s.mode = .polling → Refuses (.tick v) s .noTimingSource) ∧
    (s.cst = .unconf ∨ s.cst = .configured → Refuses (.tick v) s .notRunning) ∧
    (s.cst = .fatal → exec (.tick v) s = .next s)

/-- 44_block_producer.md R170 to R175, R179: TICK in BlockDMA. With the indices in range it drains one sample, after the
swap that is due when DRAIN_IDX = N, captures one sample, flips CAP_W when the buffer is full, and sets the race marks. -/
def Obligations.TickInBlockDmaFollowsItsRule : Prop :=
  ∀ (v : Sample) (s : State) (n : Nat),
    s.cst = .running → s.mode = .blockDMA → s.bufLen = some n → s.fillIdx.toNat < n → s.drainIdx.toNat ≤ n →
    memWf s.mem = true →
    ∃ (t : State) (r : Label) (d : BitVec 8), exec (.tick v) s = .next t ∧
      (s.drainIdx.toNat = n → r = s.pbW ∧ d = 0) ∧
      (s.drainIdx.toNat ≠ n → r = s.pbR ∧ d = s.drainIdx) ∧
      t.pbR = r ∧ t.drainIdx = d + 1 ∧
      (s.fillIdx.toNat + 1 = n → t.capW = other s.capW ∧ t.fillIdx = 0) ∧
      (s.fillIdx.toNat + 1 ≠ n → t.capW = s.capW ∧ t.fillIdx = s.fillIdx + 1) ∧
      t.fillIdx.toNat < n ∧
      t.trace = s.trace ++ (if s.drainIdx.toNat = n then [.drainSwap s.pbW] else [])
        ++ [.dacOut (s.memRead (pbAddr r (idxBits d)))]
        ++ (if s.fillIdx.toNat + 1 = n then [.capDone s.capW] else []) ∧
      (∀ a, t.memRead a = if a = capAddr s.capW (idxBits s.fillIdx) then v else s.memRead a) ∧
      (t.capRace = true ↔ s.capRace = true ∨ (s.fg = .bBusy ∧ s.capW = s.blbl)) ∧
      (t.pbRace = true ↔ s.pbRace = true ∨ (s.fg = .bBusy ∧ r = s.blbl)) ∧
      t = { s with pbR := t.pbR, drainIdx := t.drainIdx, capW := t.capW, fillIdx := t.fillIdx, trace := t.trace,
                   mem := t.mem, capRace := t.capRace, pbRace := t.pbRace }

/-- Logs 11 and 12, the model's choice in the RUNNING states that 10_state.md R44 excludes: TICK faults with BufferIndex
when an index register is out of range (20_memory.md R52), the model stops where N is not defined (10_state.md R15), and it
stops where MODE is NONE. -/
def Obligations.ExcludedStatesStopByName : Prop :=
  ∀ (v y : Sample) (sel : Sel) (idx : BitVec 7) (s : State), s.cst = .running →
    (∀ n, s.mode = .blockDMA → s.bufLen = some n → n ≤ s.fillIdx.toNat ∨ n < s.drainIdx.toNat →
      Faults (.tick v) s .bufferIndex) ∧
    (s.mode = .blockDMA → s.bufLen = none → exec (.tick v) s = .fault .lengthUndefined) ∧
    (s.mode = .blockDMA → s.fg = .bBusy → s.bufLen = none →
      exec (.xrd sel idx) s = .fault .lengthUndefined ∧ exec (.xwr idx v) s = .fault .lengthUndefined) ∧
    (s.mode = .none → exec (.tick v) s = .fault .modeUndefined ∧ exec (.sdone y) s = .fault .modeUndefined)

/-- 41_control.md R106, 42_polling.md R132, 43_interrupt.md R154: SDONE in every mode. In Polling it outputs the result and
the loop repeats; in Interrupt it pops the innermost invocation, outputs the result and clears GUARD. -/
def Obligations.SdoneFollowsItsRule : Prop :=
  ∀ (y : Sample) (s : State),
    decode (0x7#4 ++ 0#12 ++ y) = .ok (.sdone y) ∧
    (s.cst = .running → s.mode = .polling → s.fg = .pXf →
      exec (.sdone y) s = .next { s with fg := .pTrig, trace := s.trace ++ [.dacOut y] }) ∧
    (s.cst = .running → s.mode = .polling → s.fg ≠ .pXf → Refuses (.sdone y) s .noInvocation) ∧
    (∀ (x : Sample) (outer : List Sample), s.cst = .running → s.mode = .interrupt → s.istack = outer ++ [x] →
      exec (.sdone y) s = .next { s with istack := outer, guard := false, trace := s.trace ++ [.dacOut y] }) ∧
    (s.cst = .running → s.mode = .interrupt → s.istack = [] → Refuses (.sdone y) s .noInvocation) ∧
    (s.cst = .running → s.mode = .blockDMA → Refuses (.sdone y) s .wrongMode) ∧
    (s.cst = .unconf ∨ s.cst = .configured → Refuses (.sdone y) s .notRunning) ∧
    (s.cst = .fatal → exec (.sdone y) s = .next s)

/-! ## Polling -/

/-- 42_polling.md R130: PTRIG in every state. -/
def Obligations.PtrigFollowsItsRule : Prop :=
  ∀ s : State,
    decode 0x50000000#32 = .ok .ptrig ∧
    (s.cst = .running → s.mode = .polling → s.fg = .pTrig →
      exec .ptrig s = .next { s with fg := .pConv, trace := s.trace ++ [.convStart s.src] }) ∧
    (s.cst = .fatal → exec .ptrig s = .next s) ∧
    (s.cst = .unconf ∨ s.cst = .configured → Refuses .ptrig s .notRunning) ∧
    (s.cst = .running → s.mode ≠ .polling → Refuses .ptrig s .wrongMode) ∧
    (s.cst = .running → s.mode = .polling → s.fg ≠ .pTrig → Refuses .ptrig s .outOfOrder)

/-- 42_polling.md R131: CDONE in every state. -/
def Obligations.CdoneFollowsItsRule : Prop :=
  ∀ (x : Sample) (s : State),
    decode (0x6#4 ++ 0#12 ++ x) = .ok (.cdone x) ∧
    (s.cst = .running → s.mode = .polling → s.fg = .pConv →
      exec (.cdone x) s = .next { s with psample := x, fg := .pXf, trace := s.trace ++ [.sreq x] }) ∧
    (s.cst = .fatal → exec (.cdone x) s = .next s) ∧
    (s.cst = .unconf ∨ s.cst = .configured → Refuses (.cdone x) s .notRunning) ∧
    (s.cst = .running → s.mode ≠ .polling → Refuses (.cdone x) s .wrongMode) ∧
    (s.cst = .running → s.mode = .polling → s.fg ≠ .pConv → Refuses (.cdone x) s .outOfOrder)

/-- 42_polling.md R133: in a run of Polling mode the output events are, over and over, CONV_START, SREQ, DAC_OUT: the
events so far are a number of whole rounds and the part of a round that FG names. -/
def Obligations.PollingRunsRepeatOneRound : Prop :=
  ∀ (is : List Instr) (s t : State), s.cst = .running → s.mode = .polling → s.fg = .pTrig → execAll is s = .next t →
    ∃ (rounds : List (Sample × Sample)) (part : List OutEvent),
      newEvents s t
        = rounds.flatMap (fun p => [.convStart s.src, .sreq p.1, .dacOut p.2]) ++ part ∧
      ((t.fg = .pTrig ∧ part = []) ∨ (t.fg = .pConv ∧ part = [.convStart s.src]) ∨
       (t.fg = .pXf ∧ part = [.convStart s.src, .sreq t.psample]))

/-! ## Interrupt mode -/

/-- 43_interrupt.md R155: after a nested invocation returns GUARD is 0 while an outer one is outstanding, and a TICK in
that window is not recorded as an overrun. -/
def Obligations.NestedReturnHidesTheNextOverrun : Prop :=
  ∀ (s : State) (outer : List Sample) (x y v : Sample), s.cst = .running → s.mode = .interrupt →
    s.istack = outer ++ [x] → outer ≠ [] → Config.nestMax ≠ some outer.length →
      ∃ t u, exec (.sdone y) s = .next t ∧ t.guard = false ∧ t.istack = outer ∧
        exec (.tick v) t = .next u ∧ u.ovr = s.ovr ∧ u.istack = outer ++ [v]

/-- 43_interrupt.md R156, 70_reset_and_hazards.md R302: where every invocation returns before the next TICK, the k-th
DAC_OUT is the result for the k-th TICK, no overrun is recorded, and nothing but the output trace changes. -/
def Obligations.InvocationsThatReturnInTimeAnswerEachTick : Prop :=
  ∀ (calls : List (Sample × Sample)) (s : State), s.cst = .running → s.mode = .interrupt → s.istack = [] →
    s.guard = false →
      execAll (calls.flatMap fun p => [.tick p.1, .sdone p.2]) s
        = .next { s with trace := s.trace ++ calls.flatMap fun p => [.sreq p.1, .dacOut p.2] }

/-! ## BlockDMA -/

/-- 45_block_consumer.md R200, R201, R202: BPOLL in every state. A buffer is ready exactly when CAP_W = CAP_R, and the
label granted is the other one. -/
def Obligations.BpollFollowsItsRule : Prop :=
  ∀ s : State,
    decode 0x40000000#32 = .ok .bpoll ∧
    (s.cst = .running → s.mode = .blockDMA → s.fg = .bPoll → s.capW = s.capR →
      exec .bpoll s = .next
        { s with blbl := other s.capR, fg := .bBusy, trace := s.trace ++ [.breq (other s.capR)] }) ∧
    (s.cst = .running → s.mode = .blockDMA → s.fg = .bPoll → s.capW ≠ s.capR → exec .bpoll s = .next s) ∧
    (s.cst = .fatal → exec .bpoll s = .next s) ∧
    (s.cst = .unconf ∨ s.cst = .configured → Refuses .bpoll s .notRunning) ∧
    (s.cst = .running → s.mode ≠ .blockDMA → Refuses .bpoll s .wrongMode) ∧
    (s.cst = .running → s.mode = .blockDMA → s.fg ≠ .bPoll → Refuses .bpoll s .outOfOrder)

/-- 45_block_consumer.md R203: XRD in every state. -/
def Obligations.XrdFollowsItsRule : Prop :=
  ∀ (sel : Sel) (idx : BitVec 7) (s : State),
    decode (0x8#4 ++ 0#20 ++ bitsOfSel sel ++ idx) = .ok (.xrd sel idx) ∧
    (∀ n, s.cst = .running → s.mode = .blockDMA → s.fg = .bBusy → s.bufLen = some n → idx.toNat < n →
      (sel = .cap → exec (.xrd sel idx) s = .next { s with rdata := s.memRead (capAddr s.blbl idx) }) ∧
      (sel = .pb → exec (.xrd sel idx) s = .next { s with rdata := s.memRead (pbAddr s.blbl idx) })) ∧
    (∀ n, s.cst = .running → s.mode = .blockDMA → s.fg = .bBusy → s.bufLen = some n → n ≤ idx.toNat →
      Faults (.xrd sel idx) s .bufferIndex) ∧
    (s.cst = .fatal → exec (.xrd sel idx) s = .next s) ∧
    (s.cst = .unconf ∨ s.cst = .configured → Refuses (.xrd sel idx) s .notRunning) ∧
    (s.cst = .running → s.mode ≠ .blockDMA → Refuses (.xrd sel idx) s .wrongMode) ∧
    (s.cst = .running → s.mode = .blockDMA → s.fg ≠ .bBusy → Refuses (.xrd sel idx) s .noInvocation)

/-- 45_block_consumer.md R204: XWR in every state. It stores its value at `PB_[BLBL][IDX]`, and every other halfword of
the buffer space reads as before. -/
def Obligations.XwrFollowsItsRule : Prop :=
  ∀ (idx : BitVec 7) (v : Sample) (s : State),
    decode (0x9#4 ++ 0#5 ++ idx ++ v) = .ok (.xwr idx v) ∧
    (∀ n, s.cst = .running → s.mode = .blockDMA → s.fg = .bBusy → s.bufLen = some n → idx.toNat < n →
      memWf s.mem = true →
      ∃ t, exec (.xwr idx v) s = .next t ∧
        (∀ a, t.memRead a = if a = pbAddr s.blbl idx then v else s.memRead a) ∧ t = { s with mem := t.mem }) ∧
    (∀ n, s.cst = .running → s.mode = .blockDMA → s.fg = .bBusy → s.bufLen = some n → n ≤ idx.toNat →
      Faults (.xwr idx v) s .bufferIndex) ∧
    (s.cst = .fatal → exec (.xwr idx v) s = .next s) ∧
    (s.cst = .unconf ∨ s.cst = .configured → Refuses (.xwr idx v) s .notRunning) ∧
    (s.cst = .running → s.mode ≠ .blockDMA → Refuses (.xwr idx v) s .wrongMode) ∧
    (s.cst = .running → s.mode = .blockDMA → s.fg ≠ .bBusy → Refuses (.xwr idx v) s .noInvocation)

/-- 45_block_consumer.md R205: BDONE in every state. -/
def Obligations.BdoneFollowsItsRule : Prop :=
  ∀ s : State,
    decode 0xA0000000#32 = .ok .bdone ∧
    (s.cst = .running → s.mode = .blockDMA → s.fg = .bBusy →
      exec .bdone s = .next { s with capR := s.blbl, pbW := s.blbl, fg := .bPoll }) ∧
    (s.cst = .fatal → exec .bdone s = .next s) ∧
    (s.cst = .unconf ∨ s.cst = .configured → Refuses .bdone s .notRunning) ∧
    (s.cst = .running → s.mode ≠ .blockDMA → Refuses .bdone s .wrongMode) ∧
    (s.cst = .running → s.mode = .blockDMA → s.fg ≠ .bBusy → Refuses .bdone s .noInvocation)

/-- 44_block_producer.md R177: the drain and the capture phase of a tick, in either order, give the same state and the
same output events, but for the order of the events within the tick. -/
def Obligations.TickPhasesCommute : Prop :=
  ∀ (s : State) (n : Nat) (v : Sample), memWf s.mem = true →
    ((s.capturePhase n v).drainPhase n)
      = { (s.drainPhase n).capturePhase n v with trace := ((s.capturePhase n v).drainPhase n).trace } ∧
    ((s.drainPhase n).capturePhase n v).trace.Perm ((s.capturePhase n v).drainPhase n).trace

/-- 44_block_producer.md R176: a TICK in BlockDMA leaves the consumer's registers alone, and its hardware effect does not
depend on CAP_R, FG and BLBL; on PB_W it depends only when a swap is due. -/
def Obligations.TickIsBlindToTheConsumer : Prop :=
  ∀ (s t : State) (v : Sample), s.cst = .running → s.mode = .blockDMA → exec (.tick v) s = .next t →
    t.capR = s.capR ∧ t.pbW = s.pbW ∧ t.blbl = s.blbl ∧ t.fg = s.fg ∧
    (∀ (f : Foreground) (b r : Label), ∃ c p,
      exec (.tick v) { s with fg := f, blbl := b, capR := r }
        = .next { t with fg := f, blbl := b, capR := r, capRace := c, pbRace := p }) ∧
    (∀ w : Label, s.bufLen ≠ some s.drainIdx.toNat →
      exec (.tick v) { s with pbW := w } = .next { t with pbW := w })

/-- 20_memory.md R63: while RUNNING, CAP_W changes only in the completion flip and PB_R only in the drain swap, both of
the timing source's TICK, and CAP_R and PB_W only in BDONE. -/
def Obligations.EachRoleHasOneWriter : Prop :=
  ∀ (i : Instr) (s t : State), s.cst = .running → exec i s = .next t →
    (t.capW ≠ s.capW → agentOf i = .timingSource ∧ .capDone s.capW ∈ newEvents s t) ∧
    (t.pbR ≠ s.pbR → agentOf i = .timingSource ∧ .drainSwap s.pbW ∈ newEvents s t) ∧
    (t.capR ≠ s.capR → i = .bdone) ∧
    (t.pbW ≠ s.pbW → i = .bdone)

/-- 44_block_producer.md R180: the N ticks of a period fill the capture buffer with their samples, drain one playback
buffer, complete last, and store nowhere else. A period that starts at a drain boundary swaps first and drains the buffer
that PB_W names; the first period of a run, which starts with DRAIN_IDX = 0, drains the buffer that PB_R names and does not
swap. -/
def Obligations.OnePeriodCapturesAndDrains : Prop :=
  ∀ (s : State) (n : Nat) (vs : List Sample), s.cst = .running → s.mode = .blockDMA → s.bufLen = some n →
    s.fillIdx = 0 → s.drainIdx.toNat = n ∨ s.drainIdx = 0 → memWf s.mem = true → vs.length = n →
      ∃ t, execAll (vs.map .tick) s = .next t ∧
        t.capContents s.capW n = vs ∧ t.capW = other s.capW ∧ t.fillIdx = 0 ∧ t.drainIdx.toNat = n ∧
        (s.drainIdx.toNat = n → t.pbR = s.pbW ∧
          t.trace = s.trace ++ [.drainSwap s.pbW] ++ (s.pbContents s.pbW n).map .dacOut ++ [.capDone s.capW]) ∧
        (s.drainIdx = 0 → t.pbR = s.pbR ∧
          t.trace = s.trace ++ (s.pbContents s.pbR n).map .dacOut ++ [.capDone s.capW]) ∧
        (∀ a : BufAddr, (∀ k, k < n → a ≠ capAddr s.capW (BitVec.ofNat 7 k)) → t.memRead a = s.memRead a)

/-- 45_block_consumer.md R209: from a run start, while FG = B_POLL, a poll finds a buffer ready exactly when the number of
CAP_DONE events less the number of BDONE events is odd. -/
def Obligations.ReadinessIsTheParityOfCompletions : Prop :=
  ∀ (is : List Instr) (s t : State), s.cst = .running → s.mode = .blockDMA → s.fg = .bPoll → s.capW ≠ s.capR →
    execAll is s = .next t → t.fg = .bPoll →
      (t.bufferReady = true ↔
        ((capDoneLabels (newEvents s t)).length + admittedBdones is s) % 2 = 1)

/-- 44_block_producer.md R178, 45_block_consumer.md R208: from a RUN of BlockDMA on, the labels of the CAP_DONE events
alternate, and so do those of the BREQ events, each starting with A. -/
def Obligations.LabelsAlternateFromA : Prop :=
  ∀ (is : List Instr) (u s t : State), u.cst = .unconf ∨ u.cst = .configured → u.mode = .blockDMA →
    exec .run u = .next s → execAll is s = .next t →
      (∃ k, capDoneLabels (newEvents s t) = alternating .A k) ∧
      (∃ k, breqLabels (newEvents s t) = alternating .A k)

/-- 30_encoding.md R87: the pseudo-event BXFORM_ID, delivered when a buffer is ready, copies the completed capture buffer
into the playback buffer of its label and publishes it; every other halfword reads as before. -/
def Obligations.IdentityTransformCopiesTheBuffer : Prop :=
  ∀ (s : State) (n : Nat), s.cst = .running → s.mode = .blockDMA → s.fg = .bPoll → s.capW = s.capR →
    s.bufLen = some n → memWf s.mem = true →
      ∃ t, runTrace (Pseudo.bxformId.expand n) s = .next t ∧
        t.pbContents (other s.capR) n = s.capContents (other s.capR) n ∧
        (∀ a : BufAddr, (∀ k, k < n → a ≠ pbAddr (other s.capR) (BitVec.ofNat 7 k)) → t.memRead a = s.memRead a) ∧
        t.capR = other s.capR ∧ t.pbW = other s.capR ∧ t.fg = .bPoll ∧
        t.trace = s.trace ++ [.breq (other s.capR)]

/-- 45_block_consumer.md R210, R213: from a drain boundary with the consumer caught up, a period of samples, then the
identity transform before the next TICK, then another period: that second period's DAC_OUT values are the first period's
samples, in order, each once. -/
def Obligations.IdentityTransformDelaysByOnePeriod : Prop :=
  ∀ (s : State) (n : Nat) (vs ws : List Sample), s.cst = .running → s.mode = .blockDMA → s.fg = .bPoll →
    s.capW ≠ s.capR → s.bufLen = some n → s.fillIdx = 0 → s.drainIdx.toNat = n → memWf s.mem = true →
    vs.length = n → ws.length = n →
      ∃ t u w, execAll (vs.map .tick) s = .next t ∧ runTrace (Pseudo.bxformId.expand n) t = .next u ∧
        execAll (ws.map .tick) u = .next w ∧
        w.trace = u.trace ++ [.drainSwap s.capW] ++ vs.map .dacOut ++ [.capDone (other s.capW)]

/-! ## Profiler -/

/-- 46_profiler.md R230, R233: MEAS_S in every state. MRES is the difference of the medians modulo 2^32, whatever the
trials are; in a step they are the next 22 free draws (log 4), the overhead trials first. -/
def Obligations.MeasSFollowsItsRule : Prop :=
  ∀ s : State,
    decode 0xB0000000#32 = .ok .measS ∧
    (s.cst = .unconf ∨ s.cst = .configured →
      exec .measS s = .next
        { s with mres := median11 (drawTrials (s.draws + 11)) - median11 (drawTrials s.draws), draws := s.draws + 22 }) ∧
    (∀ oh cb : Trials, s.cst = .unconf ∨ s.cst = .configured →
      ∃ t, measSampleRule oh cb s = .ok t ∧
        t.mres.toNat = (2 ^ 32 + (median11 cb).toNat - (median11 oh).toNat) % 2 ^ 32) ∧
    (s.cst = .fatal → exec .measS s = .next s) ∧
    (s.cst = .running → Refuses .measS s .foregroundBusy)

/-- 46_profiler.md R231, R233: MEAS_B in every state. It measures as MEAS_S does, but is fatal with no buffer length. -/
def Obligations.MeasBFollowsItsRule : Prop :=
  ∀ s : State,
    decode 0xB0000001#32 = .ok .measB ∧
    (s.cst = .unconf ∨ s.cst = .configured → s.len ≠ 0 →
      exec .measB s = .next
        { s with mres := median11 (drawTrials (s.draws + 11)) - median11 (drawTrials s.draws), draws := s.draws + 22 }) ∧
    (∀ oh cb : Trials, s.cst = .unconf ∨ s.cst = .configured → s.len ≠ 0 →
      ∃ t, measBlockRule oh cb s = .ok t ∧
        t.mres.toNat = (2 ^ 32 + (median11 cb).toNat - (median11 oh).toNat) % 2 ^ 32) ∧
    (s.cst = .unconf ∨ s.cst = .configured → s.len = 0 → RaisesFatal .measB s 4) ∧
    (s.cst = .fatal → exec .measB s = .next s) ∧
    (s.cst = .running → Refuses .measB s .foregroundBusy)

/-- 46_profiler.md R232: in any ascending arrangement of the 11 values the element at index 5 is the median. -/
def Obligations.MedianIsTheMiddleOfTheSort : Prop :=
  ∀ (t : Trials) (l : List Cycles), l.Perm (List.ofFn t) → l.Pairwise (· ≤ ·) → l[5]? = some (median11 t)

/-- 46_profiler.md R234: six equal values of eleven are the median, whatever the other five are. -/
def Obligations.SixEqualTrialsDecideTheMedian : Prop :=
  (∀ (t : Trials) (c : Cycles), 6 ≤ (List.ofFn t).count c → median11 t = c) ∧
  (∀ (oh cb : Trials) (o c : Cycles), 6 ≤ (List.ofFn oh).count o → 6 ≤ (List.ofFn cb).count c →
    netLatency oh cb = c - o)

/-- 46_profiler.md R235: MEAS_S and MEAS_B change MRES only, or CST and FCAUSE when Fatal(4) is raised, beside the
refusal mark and the model's count of draws. -/
def Obligations.ProfilerTouchesOnlyItsResult : Prop :=
  ∀ (s t : State),
    (exec .measS s = .next t → t = { s with mres := t.mres, draws := t.draws, refused := t.refused }) ∧
    (exec .measB s = .next t →
      t = { s with mres := t.mres, draws := t.draws, refused := t.refused } ∨ t = { s with cst := .fatal, fcause := 4 })

/-! ## Errors and whole-machine rules -/

/-- 60_exceptions.md R250: a fatal step writes FCAUSE and CST and nothing else, and emits nothing. -/
def Obligations.FatalEntryIsPrecise : Prop :=
  ∀ (i : Instr) (s : State) (c : FatalCause), resultOf i s = .fatal c →
    exec i s = .next { s with fcause := causeCode c, cst := .fatal }

/-- 60_exceptions.md R252: in FATAL every legal event has no effect, an illegal word is still refused, and only RST (or
power-on) leaves FATAL. -/
def Obligations.FatalAbsorbsEveryEvent : Prop :=
  ∀ s : State, s.cst = .fatal →
    (∀ i, resultOf i s = .ignored ∧ exec i s = .next s) ∧
    (∀ w e, decode w = .error e → resultOfWord w s = .refuse .illegalWord) ∧
    (∀ t, step s = .next t → t.cst ≠ .fatal → s.pending.head? = some .rst ∨ s.pending.head? = some .powerOn)

/-- 60_exceptions.md R253: FATAL is entered only by CFG in UNCONF and by RUN or MEAS_B in UNCONF or CONFIGURED, so never
with the timing source running. -/
def Obligations.FatalIsEnteredOnlyBeforeRunning : Prop :=
  ∀ (i : Instr) (s t : State), s.cst ≠ .fatal → exec i s = .next t → t.cst = .fatal →
    ((∃ m r c l, i = .cfg m r c l ∧ s.cst = .unconf) ∨
     ((i = .run ∨ i = .measB) ∧ (s.cst = .unconf ∨ s.cst = .configured))) ∧
    s.timingSourceOn = false

/-- 41_control.md R107: no event changes CST while it is RUNNING, and no fatal cause is raised; only RST (or power-on)
ends the run. -/
def Obligations.RunningEndsOnlyByReset : Prop :=
  ∀ s : State, s.cst = .running →
    (∀ i t, exec i s = .next t → t.cst = .running) ∧
    (∀ i c, resultOf i s ≠ .fatal c) ∧
    (∀ t, step s = .next t → t.cst ≠ .running → s.pending.head? = some .rst ∨ s.pending.head? = some .powerOn)

/-- 10_state.md R17, 41_control.md R102: MODE, RATE, SRC and LEN change only in a successful CFG in UNCONF, and by RST (or
power-on). -/
def Obligations.ConfigurationIsWrittenOnce : Prop :=
  ∀ s t : State, step s = .next t →
    (t.mode = s.mode ∧ t.rate = s.rate ∧ t.src = s.src ∧ t.len = s.len) ∨
    (s.cst = .unconf ∧ t.cst = .configured ∧
      ∃ w m r c l, s.pending.head? = some (.word w) ∧ decode w = .ok (.cfg m r c l)) ∨
    s.pending.head? = some .rst ∨ s.pending.head? = some .powerOn

/-- 60_exceptions.md R260, R261, 70_reset_and_hazards.md R290: a fault sets FAULTED and a refusal sets REFUSED, each leaving
the rest as it was, and no step but power-on clears either mark. RST, in every state, resets all but the two marks, emits
nothing and stops the timing source; power-on clears the marks too; nothing else leaves RUNNING or FATAL. -/
def Obligations.MarksAreSetAndNeverCleared : Prop :=
  (∀ (i : Instr) (s : State) (r : FaultReason), resultOf i s = .fault r → exec i s = .next { s with faulted := true }) ∧
  (∀ (i : Instr) (s : State) (r : RefuseReason),
    resultOf i s = .refuse r → exec i s = .next { s with refused := true }) ∧
  (∀ s t : State, step s = .next t → s.pending.head? ≠ some .powerOn →
    (s.faulted = true → t.faulted = true) ∧ (s.refused = true → t.refused = true)) ∧
  (∀ (s : State) (rest : List Input), s.pending = .rst :: rest →
    ∃ t, step s = .next t ∧
      t.toBlockState = { State.reset.toBlockState with faulted := s.faulted, refused := s.refused } ∧
      t.trace = s.trace ∧ t.timingSourceOn = false) ∧
  (∀ (s : State) (rest : List Input), s.pending = .powerOn :: rest →
    ∃ t, step s = .next t ∧ t.toBlockState = State.reset.toBlockState ∧ t.trace = s.trace ∧ t.timingSourceOn = false) ∧
  (∀ s t : State, s.cst = .running ∨ s.cst = .fatal → step s = .next t → t.cst ≠ s.cst →
    s.pending.head? = some .rst ∨ s.pending.head? = some .powerOn)

/-- 30_encoding.md R85: the outcome of every event in every column of the admission table is the table's entry. -/
def Obligations.OutcomesAgreeWithTheAdmissionTable : Prop :=
  ∀ (i : Instr) (s : State) (c : Column), s.column = some c →
    (admission i c s = .ignored → resultOf i s = .ignored ∧ exec i s = .next s) ∧
    (∀ r, admission i c s = .refuse r → Refuses i s r) ∧
    (admission i c s = .applies → resultOf i s ≠ .ignored ∧ ∀ r, resultOf i s ≠ .refuse r)

/-- 41_control.md R108: while RUNNING, an event leaves the registers of the modes that are not configured as they are; the
statement names, per mode, all that may change. -/
def Obligations.EachModeTouchesOnlyItsState : Prop :=
  ∀ (i : Instr) (s t : State), s.cst = .running → exec i s = .next t →
    (s.mode = .polling → t = { s with fg := t.fg, psample := t.psample, trace := t.trace, refused := t.refused }) ∧
    (s.mode = .interrupt →
      t = { s with guard := t.guard, istack := t.istack, ovr := t.ovr, trace := t.trace, refused := t.refused,
                   faulted := t.faulted }) ∧
    (s.mode = .blockDMA →
      t = { s with mem := t.mem, capW := t.capW, capR := t.capR, pbW := t.pbW, pbR := t.pbR, fillIdx := t.fillIdx,
                   drainIdx := t.drainIdx, fg := t.fg, blbl := t.blbl, rdata := t.rdata, capRace := t.capRace,
                   pbRace := t.pbRace, trace := t.trace, refused := t.refused, faulted := t.faulted })

/-- 20_memory.md R53: no event but CFG, TICK and XWR changes any halfword of the buffer space; TICK changes at most the
halfword of the capture write, and XWR at most the halfword of the engine write. -/
def Obligations.OnlyThreeEventsStore : Prop :=
  ∀ (i : Instr) (s t : State), memWf s.mem = true → exec i s = .next t →
    ∀ a : BufAddr, t.memRead a ≠ s.memRead a →
      (∃ m r c l, i = .cfg m r c l ∧ s.cst = .unconf ∧ t.memRead a = 0) ∨
      (∃ v, i = .tick v ∧ s.cst = .running ∧ s.mode = .blockDMA ∧ a = s.captureAddr ∧ t.memRead a = v) ∨
      (∃ idx v, i = .xwr idx v ∧ s.cst = .running ∧ s.mode = .blockDMA ∧ s.fg = .bBusy ∧ a = s.writeAddr idx ∧
        t.memRead a = v)

/-- 10_state.md R32, R33: RDATA is written only by XRD and MRES only by MEAS_S and MEAS_B, and by RST (or power-on). -/
def Obligations.ResponseRegistersHaveTheirWriters : Prop :=
  ∀ s t : State, step s = .next t →
    (t.rdata ≠ s.rdata →
      s.pending.head? = some .rst ∨ s.pending.head? = some .powerOn ∨
      ∃ w sel idx, s.pending.head? = some (.word w) ∧ decode w = .ok (.xrd sel idx)) ∧
    (t.mres ≠ s.mres →
      s.pending.head? = some .rst ∨ s.pending.head? = some .powerOn ∨
      ∃ w, s.pending.head? = some (.word w) ∧ (decode w = .ok .measS ∨ decode w = .ok .measB))

/-- 10_state.md R34: the four marks change no hardware effect. Two states that differ in the marks alone have the same
outcome, but for the marks, and the same telemetry. -/
def Obligations.MarksAreInvisible : Prop :=
  ∀ (i : Instr) (s t : State) (f r c p : Bool), exec i s = .next t →
    (∃ f' r' c' p', exec i { s with faulted := f, refused := r, capRace := c, pbRace := p }
      = .next { t with faulted := f', refused := r', capRace := c', pbRace := p' }) ∧
    ({ s with faulted := f, refused := r, capRace := c, pbRace := p } : State).telAct = s.telAct ∧
    ({ s with faulted := f, refused := r, capRace := c, pbRace := p } : State).telDrain = s.telDrain ∧
    (∀ k, ({ s with faulted := f, refused := r, capRace := c, pbRace := p } : State).telErr k = s.telErr k)

/-- 41_control.md R100, 20_memory.md R53: the clear port, written as its loop over all 512 halfwords, leaves the memory
with nothing listed. -/
def Obligations.ClearLoopEmptiesTheMemory : Prop :=
  ∀ s : State, memWf s.mem = true → s.memZeroBelow 512 = { s with mem := [] }

/-- 70_reset_and_hazards.md R294, R292: from every UNCONF state a valid CFG with a mode, any number of measurements (MEAS_B
only with a buffer length) and then RUN reach the run-start state of that mode, with every buffer element 0. Whenever a RUN
starts the run from a state that meets the invariant, whatever came before it, every buffer element is 0. -/
def Obligations.BootReachesTheRunStart : Prop :=
  (∀ (m : Mode) (r : BitVec 4) (c : BitVec 2) (l : BitVec 3) (ms : List Instr) (s : State), s.cst = .unconf →
    m ≠ .none → c.toNat ≤ 1 → r.toNat ≤ 8 → (m = .blockDMA → 1 ≤ l.toNat ∧ l.toNat ≤ 5) →
    (∀ i ∈ ms, i = .measS ∨ (i = .measB ∧ 1 ≤ l.toNat ∧ l.toNat ≤ 5)) →
      ∃ t, execAll (.cfg m r c l :: (ms ++ [.run])) s = .next t ∧ t.cst = .running ∧ t.mode = m ∧ t.rate = r ∧
        t.src = c ∧ t.fg = startForeground m ∧ (∀ a, t.memRead a = 0) ∧
        t.capW = .A ∧ t.capR = .B ∧ t.pbW = .B ∧ t.pbR = .A ∧ t.fillIdx = 0 ∧ t.drainIdx = 0 ∧
        t.guard = false ∧ t.istack = [] ∧ t.ovr = false ∧ t.capRace = false ∧ t.pbRace = false ∧
        t.trace = s.trace ∧ t.faulted = s.faulted ∧ t.refused = s.refused) ∧
  (∀ s t : State, s.Inv → s.cst ≠ .running → exec .run s = .next t → t.cst = .running → ∀ a, t.memRead a = 0)

/-! ## Observations and parameters -/

/-- 10_state.md R40: the three telemetry levels as functions of the state. -/
def Obligations.TelemetryFollowsItsRule : Prop :=
  ∀ (s : State) (k : Nat),
    (s.telAct = true ↔ s.cst = .running ∧
      ((s.mode = .polling ∧ s.fg = .pXf) ∨ (s.mode = .interrupt ∧ 0 < s.istack.length) ∨
       (s.mode = .blockDMA ∧ s.fg = .bBusy))) ∧
    (s.cst = .fatal → s.telErr k = Config.blinkLevel k) ∧ (s.cst ≠ .fatal → s.telErr k = s.ovr) ∧
    (s.cst = .running → s.mode = .blockDMA → s.telDrain = labelCode s.pbR) ∧
    (¬(s.cst = .running ∧ s.mode = .blockDMA) → s.telDrain = 0)

/-- 20_memory.md R55: a host with byte addresses sees halfword `a` at bytes 2a and 2a + 1, in the order of the open
parameter. That no byte lies at 1024 and above is the model's choice (log 9). -/
def Obligations.HostBytesAreTheHalfword : Prop :=
  ∀ (s : State) (a : BufAddr),
    hostByteIn .little s (2 * a.toNat) = some ((s.memRead a).extractLsb 7 0) ∧
    hostByteIn .little s (2 * a.toNat + 1) = some ((s.memRead a).extractLsb 15 8) ∧
    hostByteIn .big s (2 * a.toNat) = some ((s.memRead a).extractLsb 15 8) ∧
    hostByteIn .big s (2 * a.toNat + 1) = some ((s.memRead a).extractLsb 7 0) ∧
    (∀ b, s.hostByte b = hostByteIn Config.hostByteOrder s b) ∧
    (∀ o b, 1024 ≤ b → hostByteIn o s b = none)

/-- 70_reset_and_hazards.md R311 and log 7: the periods of the nine rate indices are positive and strictly increasing,
whatever the open parameter is. -/
def Obligations.RatePeriodsStrictlyIncrease : Prop :=
  ∀ i j : Nat, i < j → j ≤ 8 → 0 < Config.ratePeriod i ∧ Config.ratePeriod i < Config.ratePeriod j
end

