-- ==== Sys2Proof/Laws/State.lean ====
section
/-! SUPPORT. One lemma per field per named update of the state, so that no proof unfolds a record update. -/
namespace Sys2Proof.Machine

variable (s : State)

@[simp] theorem State.emit_cst (e : OutEvent) : (s.emit e).cst = s.cst := rfl
@[simp] theorem State.emit_fcause (e : OutEvent) : (s.emit e).fcause = s.fcause := rfl
@[simp] theorem State.emit_mode (e : OutEvent) : (s.emit e).mode = s.mode := rfl
@[simp] theorem State.emit_rate (e : OutEvent) : (s.emit e).rate = s.rate := rfl
@[simp] theorem State.emit_src (e : OutEvent) : (s.emit e).src = s.src := rfl
@[simp] theorem State.emit_len (e : OutEvent) : (s.emit e).len = s.len := rfl
@[simp] theorem State.emit_mem (e : OutEvent) : (s.emit e).mem = s.mem := rfl
@[simp] theorem State.emit_capW (e : OutEvent) : (s.emit e).capW = s.capW := rfl
@[simp] theorem State.emit_capR (e : OutEvent) : (s.emit e).capR = s.capR := rfl
@[simp] theorem State.emit_pbW (e : OutEvent) : (s.emit e).pbW = s.pbW := rfl
@[simp] theorem State.emit_pbR (e : OutEvent) : (s.emit e).pbR = s.pbR := rfl
@[simp] theorem State.emit_fillIdx (e : OutEvent) : (s.emit e).fillIdx = s.fillIdx := rfl
@[simp] theorem State.emit_drainIdx (e : OutEvent) : (s.emit e).drainIdx = s.drainIdx := rfl
@[simp] theorem State.emit_fg (e : OutEvent) : (s.emit e).fg = s.fg := rfl
@[simp] theorem State.emit_blbl (e : OutEvent) : (s.emit e).blbl = s.blbl := rfl
@[simp] theorem State.emit_psample (e : OutEvent) : (s.emit e).psample = s.psample := rfl
@[simp] theorem State.emit_guard (e : OutEvent) : (s.emit e).guard = s.guard := rfl
@[simp] theorem State.emit_istack (e : OutEvent) : (s.emit e).istack = s.istack := rfl
@[simp] theorem State.emit_ovr (e : OutEvent) : (s.emit e).ovr = s.ovr := rfl
@[simp] theorem State.emit_rdata (e : OutEvent) : (s.emit e).rdata = s.rdata := rfl
@[simp] theorem State.emit_mres (e : OutEvent) : (s.emit e).mres = s.mres := rfl
@[simp] theorem State.emit_faulted (e : OutEvent) : (s.emit e).faulted = s.faulted := rfl
@[simp] theorem State.emit_refused (e : OutEvent) : (s.emit e).refused = s.refused := rfl
@[simp] theorem State.emit_capRace (e : OutEvent) : (s.emit e).capRace = s.capRace := rfl
@[simp] theorem State.emit_pbRace (e : OutEvent) : (s.emit e).pbRace = s.pbRace := rfl
@[simp] theorem State.emit_pending (e : OutEvent) : (s.emit e).pending = s.pending := rfl
@[simp] theorem State.emit_trace (e : OutEvent) : (s.emit e).trace = s.trace ++ [e] := rfl
@[simp] theorem State.emit_draws (e : OutEvent) : (s.emit e).draws = s.draws := rfl
@[simp] theorem State.emit_toBlockState (e : OutEvent) : (s.emit e).toBlockState = s.toBlockState := rfl

@[simp] theorem State.setFg_cst (f : Foreground) : (s.setFg f).cst = s.cst := rfl
@[simp] theorem State.setFg_fcause (f : Foreground) : (s.setFg f).fcause = s.fcause := rfl
@[simp] theorem State.setFg_mode (f : Foreground) : (s.setFg f).mode = s.mode := rfl
@[simp] theorem State.setFg_rate (f : Foreground) : (s.setFg f).rate = s.rate := rfl
@[simp] theorem State.setFg_src (f : Foreground) : (s.setFg f).src = s.src := rfl
@[simp] theorem State.setFg_len (f : Foreground) : (s.setFg f).len = s.len := rfl
@[simp] theorem State.setFg_mem (f : Foreground) : (s.setFg f).mem = s.mem := rfl
@[simp] theorem State.setFg_capW (f : Foreground) : (s.setFg f).capW = s.capW := rfl
@[simp] theorem State.setFg_capR (f : Foreground) : (s.setFg f).capR = s.capR := rfl
@[simp] theorem State.setFg_pbW (f : Foreground) : (s.setFg f).pbW = s.pbW := rfl
@[simp] theorem State.setFg_pbR (f : Foreground) : (s.setFg f).pbR = s.pbR := rfl
@[simp] theorem State.setFg_fillIdx (f : Foreground) : (s.setFg f).fillIdx = s.fillIdx := rfl
@[simp] theorem State.setFg_drainIdx (f : Foreground) : (s.setFg f).drainIdx = s.drainIdx := rfl
@[simp] theorem State.setFg_fg (f : Foreground) : (s.setFg f).fg = f := rfl
@[simp] theorem State.setFg_blbl (f : Foreground) : (s.setFg f).blbl = s.blbl := rfl
@[simp] theorem State.setFg_psample (f : Foreground) : (s.setFg f).psample = s.psample := rfl
@[simp] theorem State.setFg_guard (f : Foreground) : (s.setFg f).guard = s.guard := rfl
@[simp] theorem State.setFg_istack (f : Foreground) : (s.setFg f).istack = s.istack := rfl
@[simp] theorem State.setFg_ovr (f : Foreground) : (s.setFg f).ovr = s.ovr := rfl
@[simp] theorem State.setFg_rdata (f : Foreground) : (s.setFg f).rdata = s.rdata := rfl
@[simp] theorem State.setFg_mres (f : Foreground) : (s.setFg f).mres = s.mres := rfl
@[simp] theorem State.setFg_faulted (f : Foreground) : (s.setFg f).faulted = s.faulted := rfl
@[simp] theorem State.setFg_refused (f : Foreground) : (s.setFg f).refused = s.refused := rfl
@[simp] theorem State.setFg_capRace (f : Foreground) : (s.setFg f).capRace = s.capRace := rfl
@[simp] theorem State.setFg_pbRace (f : Foreground) : (s.setFg f).pbRace = s.pbRace := rfl
@[simp] theorem State.setFg_pending (f : Foreground) : (s.setFg f).pending = s.pending := rfl
@[simp] theorem State.setFg_trace (f : Foreground) : (s.setFg f).trace = s.trace := rfl
@[simp] theorem State.setFg_draws (f : Foreground) : (s.setFg f).draws = s.draws := rfl

@[simp] theorem State.memWrite_cst (a : BufAddr) (v : Sample) : (s.memWrite a v).cst = s.cst := rfl
@[simp] theorem State.memWrite_fcause (a : BufAddr) (v : Sample) : (s.memWrite a v).fcause = s.fcause := rfl
@[simp] theorem State.memWrite_mode (a : BufAddr) (v : Sample) : (s.memWrite a v).mode = s.mode := rfl
@[simp] theorem State.memWrite_rate (a : BufAddr) (v : Sample) : (s.memWrite a v).rate = s.rate := rfl
@[simp] theorem State.memWrite_src (a : BufAddr) (v : Sample) : (s.memWrite a v).src = s.src := rfl
@[simp] theorem State.memWrite_len (a : BufAddr) (v : Sample) : (s.memWrite a v).len = s.len := rfl
@[simp] theorem State.memWrite_mem (a : BufAddr) (v : Sample) : (s.memWrite a v).mem = memStore s.mem a.toNat v := rfl
@[simp] theorem State.memWrite_capW (a : BufAddr) (v : Sample) : (s.memWrite a v).capW = s.capW := rfl
@[simp] theorem State.memWrite_capR (a : BufAddr) (v : Sample) : (s.memWrite a v).capR = s.capR := rfl
@[simp] theorem State.memWrite_pbW (a : BufAddr) (v : Sample) : (s.memWrite a v).pbW = s.pbW := rfl
@[simp] theorem State.memWrite_pbR (a : BufAddr) (v : Sample) : (s.memWrite a v).pbR = s.pbR := rfl
@[simp] theorem State.memWrite_fillIdx (a : BufAddr) (v : Sample) : (s.memWrite a v).fillIdx = s.fillIdx := rfl
@[simp] theorem State.memWrite_drainIdx (a : BufAddr) (v : Sample) : (s.memWrite a v).drainIdx = s.drainIdx := rfl
@[simp] theorem State.memWrite_fg (a : BufAddr) (v : Sample) : (s.memWrite a v).fg = s.fg := rfl
@[simp] theorem State.memWrite_blbl (a : BufAddr) (v : Sample) : (s.memWrite a v).blbl = s.blbl := rfl
@[simp] theorem State.memWrite_psample (a : BufAddr) (v : Sample) : (s.memWrite a v).psample = s.psample := rfl
@[simp] theorem State.memWrite_guard (a : BufAddr) (v : Sample) : (s.memWrite a v).guard = s.guard := rfl
@[simp] theorem State.memWrite_istack (a : BufAddr) (v : Sample) : (s.memWrite a v).istack = s.istack := rfl
@[simp] theorem State.memWrite_ovr (a : BufAddr) (v : Sample) : (s.memWrite a v).ovr = s.ovr := rfl
@[simp] theorem State.memWrite_rdata (a : BufAddr) (v : Sample) : (s.memWrite a v).rdata = s.rdata := rfl
@[simp] theorem State.memWrite_mres (a : BufAddr) (v : Sample) : (s.memWrite a v).mres = s.mres := rfl
@[simp] theorem State.memWrite_faulted (a : BufAddr) (v : Sample) : (s.memWrite a v).faulted = s.faulted := rfl
@[simp] theorem State.memWrite_refused (a : BufAddr) (v : Sample) : (s.memWrite a v).refused = s.refused := rfl
@[simp] theorem State.memWrite_capRace (a : BufAddr) (v : Sample) : (s.memWrite a v).capRace = s.capRace := rfl
@[simp] theorem State.memWrite_pbRace (a : BufAddr) (v : Sample) : (s.memWrite a v).pbRace = s.pbRace := rfl
@[simp] theorem State.memWrite_pending (a : BufAddr) (v : Sample) : (s.memWrite a v).pending = s.pending := rfl
@[simp] theorem State.memWrite_trace (a : BufAddr) (v : Sample) : (s.memWrite a v).trace = s.trace := rfl
@[simp] theorem State.memWrite_draws (a : BufAddr) (v : Sample) : (s.memWrite a v).draws = s.draws := rfl

@[simp] theorem State.memClear_cst : (s.memClear).cst = s.cst := rfl
@[simp] theorem State.memClear_fcause : (s.memClear).fcause = s.fcause := rfl
@[simp] theorem State.memClear_mode : (s.memClear).mode = s.mode := rfl
@[simp] theorem State.memClear_rate : (s.memClear).rate = s.rate := rfl
@[simp] theorem State.memClear_src : (s.memClear).src = s.src := rfl
@[simp] theorem State.memClear_len : (s.memClear).len = s.len := rfl
@[simp] theorem State.memClear_mem : (s.memClear).mem = [] := rfl
@[simp] theorem State.memClear_capW : (s.memClear).capW = s.capW := rfl
@[simp] theorem State.memClear_capR : (s.memClear).capR = s.capR := rfl
@[simp] theorem State.memClear_pbW : (s.memClear).pbW = s.pbW := rfl
@[simp] theorem State.memClear_pbR : (s.memClear).pbR = s.pbR := rfl
@[simp] theorem State.memClear_fillIdx : (s.memClear).fillIdx = s.fillIdx := rfl
@[simp] theorem State.memClear_drainIdx : (s.memClear).drainIdx = s.drainIdx := rfl
@[simp] theorem State.memClear_fg : (s.memClear).fg = s.fg := rfl
@[simp] theorem State.memClear_blbl : (s.memClear).blbl = s.blbl := rfl
@[simp] theorem State.memClear_psample : (s.memClear).psample = s.psample := rfl
@[simp] theorem State.memClear_guard : (s.memClear).guard = s.guard := rfl
@[simp] theorem State.memClear_istack : (s.memClear).istack = s.istack := rfl
@[simp] theorem State.memClear_ovr : (s.memClear).ovr = s.ovr := rfl
@[simp] theorem State.memClear_rdata : (s.memClear).rdata = s.rdata := rfl
@[simp] theorem State.memClear_mres : (s.memClear).mres = s.mres := rfl
@[simp] theorem State.memClear_faulted : (s.memClear).faulted = s.faulted := rfl
@[simp] theorem State.memClear_refused : (s.memClear).refused = s.refused := rfl
@[simp] theorem State.memClear_capRace : (s.memClear).capRace = s.capRace := rfl
@[simp] theorem State.memClear_pbRace : (s.memClear).pbRace = s.pbRace := rfl
@[simp] theorem State.memClear_pending : (s.memClear).pending = s.pending := rfl
@[simp] theorem State.memClear_trace : (s.memClear).trace = s.trace := rfl
@[simp] theorem State.memClear_draws : (s.memClear).draws = s.draws := rfl

@[simp] theorem State.raiseFatal_cst (c : FatalCause) : (s.raiseFatal c).cst = .fatal := rfl
@[simp] theorem State.raiseFatal_fcause (c : FatalCause) : (s.raiseFatal c).fcause = causeCode c := rfl
@[simp] theorem State.raiseFatal_mode (c : FatalCause) : (s.raiseFatal c).mode = s.mode := rfl
@[simp] theorem State.raiseFatal_rate (c : FatalCause) : (s.raiseFatal c).rate = s.rate := rfl
@[simp] theorem State.raiseFatal_src (c : FatalCause) : (s.raiseFatal c).src = s.src := rfl
@[simp] theorem State.raiseFatal_len (c : FatalCause) : (s.raiseFatal c).len = s.len := rfl
@[simp] theorem State.raiseFatal_mem (c : FatalCause) : (s.raiseFatal c).mem = s.mem := rfl
@[simp] theorem State.raiseFatal_capW (c : FatalCause) : (s.raiseFatal c).capW = s.capW := rfl
@[simp] theorem State.raiseFatal_capR (c : FatalCause) : (s.raiseFatal c).capR = s.capR := rfl
@[simp] theorem State.raiseFatal_pbW (c : FatalCause) : (s.raiseFatal c).pbW = s.pbW := rfl
@[simp] theorem State.raiseFatal_pbR (c : FatalCause) : (s.raiseFatal c).pbR = s.pbR := rfl
@[simp] theorem State.raiseFatal_fillIdx (c : FatalCause) : (s.raiseFatal c).fillIdx = s.fillIdx := rfl
@[simp] theorem State.raiseFatal_drainIdx (c : FatalCause) : (s.raiseFatal c).drainIdx = s.drainIdx := rfl
@[simp] theorem State.raiseFatal_fg (c : FatalCause) : (s.raiseFatal c).fg = s.fg := rfl
@[simp] theorem State.raiseFatal_blbl (c : FatalCause) : (s.raiseFatal c).blbl = s.blbl := rfl
@[simp] theorem State.raiseFatal_psample (c : FatalCause) : (s.raiseFatal c).psample = s.psample := rfl
@[simp] theorem State.raiseFatal_guard (c : FatalCause) : (s.raiseFatal c).guard = s.guard := rfl
@[simp] theorem State.raiseFatal_istack (c : FatalCause) : (s.raiseFatal c).istack = s.istack := rfl
@[simp] theorem State.raiseFatal_ovr (c : FatalCause) : (s.raiseFatal c).ovr = s.ovr := rfl
@[simp] theorem State.raiseFatal_rdata (c : FatalCause) : (s.raiseFatal c).rdata = s.rdata := rfl
@[simp] theorem State.raiseFatal_mres (c : FatalCause) : (s.raiseFatal c).mres = s.mres := rfl
@[simp] theorem State.raiseFatal_faulted (c : FatalCause) : (s.raiseFatal c).faulted = s.faulted := rfl
@[simp] theorem State.raiseFatal_refused (c : FatalCause) : (s.raiseFatal c).refused = s.refused := rfl
@[simp] theorem State.raiseFatal_capRace (c : FatalCause) : (s.raiseFatal c).capRace = s.capRace := rfl
@[simp] theorem State.raiseFatal_pbRace (c : FatalCause) : (s.raiseFatal c).pbRace = s.pbRace := rfl
@[simp] theorem State.raiseFatal_pending (c : FatalCause) : (s.raiseFatal c).pending = s.pending := rfl
@[simp] theorem State.raiseFatal_trace (c : FatalCause) : (s.raiseFatal c).trace = s.trace := rfl
@[simp] theorem State.raiseFatal_draws (c : FatalCause) : (s.raiseFatal c).draws = s.draws := rfl

@[simp] theorem State.markRefused_cst : (s.markRefused).cst = s.cst := rfl
@[simp] theorem State.markRefused_fcause : (s.markRefused).fcause = s.fcause := rfl
@[simp] theorem State.markRefused_mode : (s.markRefused).mode = s.mode := rfl
@[simp] theorem State.markRefused_rate : (s.markRefused).rate = s.rate := rfl
@[simp] theorem State.markRefused_src : (s.markRefused).src = s.src := rfl
@[simp] theorem State.markRefused_len : (s.markRefused).len = s.len := rfl
@[simp] theorem State.markRefused_mem : (s.markRefused).mem = s.mem := rfl
@[simp] theorem State.markRefused_capW : (s.markRefused).capW = s.capW := rfl
@[simp] theorem State.markRefused_capR : (s.markRefused).capR = s.capR := rfl
@[simp] theorem State.markRefused_pbW : (s.markRefused).pbW = s.pbW := rfl
@[simp] theorem State.markRefused_pbR : (s.markRefused).pbR = s.pbR := rfl
@[simp] theorem State.markRefused_fillIdx : (s.markRefused).fillIdx = s.fillIdx := rfl
@[simp] theorem State.markRefused_drainIdx : (s.markRefused).drainIdx = s.drainIdx := rfl
@[simp] theorem State.markRefused_fg : (s.markRefused).fg = s.fg := rfl
@[simp] theorem State.markRefused_blbl : (s.markRefused).blbl = s.blbl := rfl
@[simp] theorem State.markRefused_psample : (s.markRefused).psample = s.psample := rfl
@[simp] theorem State.markRefused_guard : (s.markRefused).guard = s.guard := rfl
@[simp] theorem State.markRefused_istack : (s.markRefused).istack = s.istack := rfl
@[simp] theorem State.markRefused_ovr : (s.markRefused).ovr = s.ovr := rfl
@[simp] theorem State.markRefused_rdata : (s.markRefused).rdata = s.rdata := rfl
@[simp] theorem State.markRefused_mres : (s.markRefused).mres = s.mres := rfl
@[simp] theorem State.markRefused_faulted : (s.markRefused).faulted = s.faulted := rfl
@[simp] theorem State.markRefused_refused : (s.markRefused).refused = true := rfl
@[simp] theorem State.markRefused_capRace : (s.markRefused).capRace = s.capRace := rfl
@[simp] theorem State.markRefused_pbRace : (s.markRefused).pbRace = s.pbRace := rfl
@[simp] theorem State.markRefused_pending : (s.markRefused).pending = s.pending := rfl
@[simp] theorem State.markRefused_trace : (s.markRefused).trace = s.trace := rfl
@[simp] theorem State.markRefused_draws : (s.markRefused).draws = s.draws := rfl

@[simp] theorem State.markFaulted_cst : (s.markFaulted).cst = s.cst := rfl
@[simp] theorem State.markFaulted_fcause : (s.markFaulted).fcause = s.fcause := rfl
@[simp] theorem State.markFaulted_mode : (s.markFaulted).mode = s.mode := rfl
@[simp] theorem State.markFaulted_rate : (s.markFaulted).rate = s.rate := rfl
@[simp] theorem State.markFaulted_src : (s.markFaulted).src = s.src := rfl
@[simp] theorem State.markFaulted_len : (s.markFaulted).len = s.len := rfl
@[simp] theorem State.markFaulted_mem : (s.markFaulted).mem = s.mem := rfl
@[simp] theorem State.markFaulted_capW : (s.markFaulted).capW = s.capW := rfl
@[simp] theorem State.markFaulted_capR : (s.markFaulted).capR = s.capR := rfl
@[simp] theorem State.markFaulted_pbW : (s.markFaulted).pbW = s.pbW := rfl
@[simp] theorem State.markFaulted_pbR : (s.markFaulted).pbR = s.pbR := rfl
@[simp] theorem State.markFaulted_fillIdx : (s.markFaulted).fillIdx = s.fillIdx := rfl
@[simp] theorem State.markFaulted_drainIdx : (s.markFaulted).drainIdx = s.drainIdx := rfl
@[simp] theorem State.markFaulted_fg : (s.markFaulted).fg = s.fg := rfl
@[simp] theorem State.markFaulted_blbl : (s.markFaulted).blbl = s.blbl := rfl
@[simp] theorem State.markFaulted_psample : (s.markFaulted).psample = s.psample := rfl
@[simp] theorem State.markFaulted_guard : (s.markFaulted).guard = s.guard := rfl
@[simp] theorem State.markFaulted_istack : (s.markFaulted).istack = s.istack := rfl
@[simp] theorem State.markFaulted_ovr : (s.markFaulted).ovr = s.ovr := rfl
@[simp] theorem State.markFaulted_rdata : (s.markFaulted).rdata = s.rdata := rfl
@[simp] theorem State.markFaulted_mres : (s.markFaulted).mres = s.mres := rfl
@[simp] theorem State.markFaulted_faulted : (s.markFaulted).faulted = true := rfl
@[simp] theorem State.markFaulted_refused : (s.markFaulted).refused = s.refused := rfl
@[simp] theorem State.markFaulted_capRace : (s.markFaulted).capRace = s.capRace := rfl
@[simp] theorem State.markFaulted_pbRace : (s.markFaulted).pbRace = s.pbRace := rfl
@[simp] theorem State.markFaulted_pending : (s.markFaulted).pending = s.pending := rfl
@[simp] theorem State.markFaulted_trace : (s.markFaulted).trace = s.trace := rfl
@[simp] theorem State.markFaulted_draws : (s.markFaulted).draws = s.draws := rfl

@[simp] theorem State.takeInput_cst : (s.takeInput).cst = s.cst := rfl
@[simp] theorem State.takeInput_fcause : (s.takeInput).fcause = s.fcause := rfl
@[simp] theorem State.takeInput_mode : (s.takeInput).mode = s.mode := rfl
@[simp] theorem State.takeInput_rate : (s.takeInput).rate = s.rate := rfl
@[simp] theorem State.takeInput_src : (s.takeInput).src = s.src := rfl
@[simp] theorem State.takeInput_len : (s.takeInput).len = s.len := rfl
@[simp] theorem State.takeInput_mem : (s.takeInput).mem = s.mem := rfl
@[simp] theorem State.takeInput_capW : (s.takeInput).capW = s.capW := rfl
@[simp] theorem State.takeInput_capR : (s.takeInput).capR = s.capR := rfl
@[simp] theorem State.takeInput_pbW : (s.takeInput).pbW = s.pbW := rfl
@[simp] theorem State.takeInput_pbR : (s.takeInput).pbR = s.pbR := rfl
@[simp] theorem State.takeInput_fillIdx : (s.takeInput).fillIdx = s.fillIdx := rfl
@[simp] theorem State.takeInput_drainIdx : (s.takeInput).drainIdx = s.drainIdx := rfl
@[simp] theorem State.takeInput_fg : (s.takeInput).fg = s.fg := rfl
@[simp] theorem State.takeInput_blbl : (s.takeInput).blbl = s.blbl := rfl
@[simp] theorem State.takeInput_psample : (s.takeInput).psample = s.psample := rfl
@[simp] theorem State.takeInput_guard : (s.takeInput).guard = s.guard := rfl
@[simp] theorem State.takeInput_istack : (s.takeInput).istack = s.istack := rfl
@[simp] theorem State.takeInput_ovr : (s.takeInput).ovr = s.ovr := rfl
@[simp] theorem State.takeInput_rdata : (s.takeInput).rdata = s.rdata := rfl
@[simp] theorem State.takeInput_mres : (s.takeInput).mres = s.mres := rfl
@[simp] theorem State.takeInput_faulted : (s.takeInput).faulted = s.faulted := rfl
@[simp] theorem State.takeInput_refused : (s.takeInput).refused = s.refused := rfl
@[simp] theorem State.takeInput_capRace : (s.takeInput).capRace = s.capRace := rfl
@[simp] theorem State.takeInput_pbRace : (s.takeInput).pbRace = s.pbRace := rfl
@[simp] theorem State.takeInput_pending : (s.takeInput).pending = s.pending.tail := rfl
@[simp] theorem State.takeInput_trace : (s.takeInput).trace = s.trace := rfl
@[simp] theorem State.takeInput_draws : (s.takeInput).draws = s.draws := rfl
@[simp] theorem State.takeInput_toBlockState : (s.takeInput).toBlockState = s.toBlockState := rfl

@[simp] theorem State.clearGuard_cst : (s.clearGuard).cst = s.cst := rfl
@[simp] theorem State.clearGuard_fcause : (s.clearGuard).fcause = s.fcause := rfl
@[simp] theorem State.clearGuard_mode : (s.clearGuard).mode = s.mode := rfl
@[simp] theorem State.clearGuard_rate : (s.clearGuard).rate = s.rate := rfl
@[simp] theorem State.clearGuard_src : (s.clearGuard).src = s.src := rfl
@[simp] theorem State.clearGuard_len : (s.clearGuard).len = s.len := rfl
@[simp] theorem State.clearGuard_mem : (s.clearGuard).mem = s.mem := rfl
@[simp] theorem State.clearGuard_capW : (s.clearGuard).capW = s.capW := rfl
@[simp] theorem State.clearGuard_capR : (s.clearGuard).capR = s.capR := rfl
@[simp] theorem State.clearGuard_pbW : (s.clearGuard).pbW = s.pbW := rfl
@[simp] theorem State.clearGuard_pbR : (s.clearGuard).pbR = s.pbR := rfl
@[simp] theorem State.clearGuard_fillIdx : (s.clearGuard).fillIdx = s.fillIdx := rfl
@[simp] theorem State.clearGuard_drainIdx : (s.clearGuard).drainIdx = s.drainIdx := rfl
@[simp] theorem State.clearGuard_fg : (s.clearGuard).fg = s.fg := rfl
@[simp] theorem State.clearGuard_blbl : (s.clearGuard).blbl = s.blbl := rfl
@[simp] theorem State.clearGuard_psample : (s.clearGuard).psample = s.psample := rfl
@[simp] theorem State.clearGuard_guard : (s.clearGuard).guard = false := rfl
@[simp] theorem State.clearGuard_istack : (s.clearGuard).istack = s.istack := rfl
@[simp] theorem State.clearGuard_ovr : (s.clearGuard).ovr = s.ovr := rfl
@[simp] theorem State.clearGuard_rdata : (s.clearGuard).rdata = s.rdata := rfl
@[simp] theorem State.clearGuard_mres : (s.clearGuard).mres = s.mres := rfl
@[simp] theorem State.clearGuard_faulted : (s.clearGuard).faulted = s.faulted := rfl
@[simp] theorem State.clearGuard_refused : (s.clearGuard).refused = s.refused := rfl
@[simp] theorem State.clearGuard_capRace : (s.clearGuard).capRace = s.capRace := rfl
@[simp] theorem State.clearGuard_pbRace : (s.clearGuard).pbRace = s.pbRace := rfl
@[simp] theorem State.clearGuard_pending : (s.clearGuard).pending = s.pending := rfl
@[simp] theorem State.clearGuard_trace : (s.clearGuard).trace = s.trace := rfl
@[simp] theorem State.clearGuard_draws : (s.clearGuard).draws = s.draws := rfl

@[simp] theorem State.testAndSetGuard_cst : (s.testAndSetGuard).cst = s.cst := rfl
@[simp] theorem State.testAndSetGuard_fcause : (s.testAndSetGuard).fcause = s.fcause := rfl
@[simp] theorem State.testAndSetGuard_mode : (s.testAndSetGuard).mode = s.mode := rfl
@[simp] theorem State.testAndSetGuard_rate : (s.testAndSetGuard).rate = s.rate := rfl
@[simp] theorem State.testAndSetGuard_src : (s.testAndSetGuard).src = s.src := rfl
@[simp] theorem State.testAndSetGuard_len : (s.testAndSetGuard).len = s.len := rfl
@[simp] theorem State.testAndSetGuard_mem : (s.testAndSetGuard).mem = s.mem := rfl
@[simp] theorem State.testAndSetGuard_capW : (s.testAndSetGuard).capW = s.capW := rfl
@[simp] theorem State.testAndSetGuard_capR : (s.testAndSetGuard).capR = s.capR := rfl
@[simp] theorem State.testAndSetGuard_pbW : (s.testAndSetGuard).pbW = s.pbW := rfl
@[simp] theorem State.testAndSetGuard_pbR : (s.testAndSetGuard).pbR = s.pbR := rfl
@[simp] theorem State.testAndSetGuard_fillIdx : (s.testAndSetGuard).fillIdx = s.fillIdx := rfl
@[simp] theorem State.testAndSetGuard_drainIdx : (s.testAndSetGuard).drainIdx = s.drainIdx := rfl
@[simp] theorem State.testAndSetGuard_fg : (s.testAndSetGuard).fg = s.fg := rfl
@[simp] theorem State.testAndSetGuard_blbl : (s.testAndSetGuard).blbl = s.blbl := rfl
@[simp] theorem State.testAndSetGuard_psample : (s.testAndSetGuard).psample = s.psample := rfl
@[simp] theorem State.testAndSetGuard_guard : (s.testAndSetGuard).guard = true := rfl
@[simp] theorem State.testAndSetGuard_istack : (s.testAndSetGuard).istack = s.istack := rfl
@[simp] theorem State.testAndSetGuard_ovr : (s.testAndSetGuard).ovr = (s.ovr || s.guard) := rfl
@[simp] theorem State.testAndSetGuard_rdata : (s.testAndSetGuard).rdata = s.rdata := rfl
@[simp] theorem State.testAndSetGuard_mres : (s.testAndSetGuard).mres = s.mres := rfl
@[simp] theorem State.testAndSetGuard_faulted : (s.testAndSetGuard).faulted = s.faulted := rfl
@[simp] theorem State.testAndSetGuard_refused : (s.testAndSetGuard).refused = s.refused := rfl
@[simp] theorem State.testAndSetGuard_capRace : (s.testAndSetGuard).capRace = s.capRace := rfl
@[simp] theorem State.testAndSetGuard_pbRace : (s.testAndSetGuard).pbRace = s.pbRace := rfl
@[simp] theorem State.testAndSetGuard_pending : (s.testAndSetGuard).pending = s.pending := rfl
@[simp] theorem State.testAndSetGuard_trace : (s.testAndSetGuard).trace = s.trace := rfl
@[simp] theorem State.testAndSetGuard_draws : (s.testAndSetGuard).draws = s.draws := rfl

@[simp] theorem State.markCapRace_cst : (s.markCapRace).cst = s.cst := rfl
@[simp] theorem State.markCapRace_fcause : (s.markCapRace).fcause = s.fcause := rfl
@[simp] theorem State.markCapRace_mode : (s.markCapRace).mode = s.mode := rfl
@[simp] theorem State.markCapRace_rate : (s.markCapRace).rate = s.rate := rfl
@[simp] theorem State.markCapRace_src : (s.markCapRace).src = s.src := rfl
@[simp] theorem State.markCapRace_len : (s.markCapRace).len = s.len := rfl
@[simp] theorem State.markCapRace_mem : (s.markCapRace).mem = s.mem := rfl
@[simp] theorem State.markCapRace_capW : (s.markCapRace).capW = s.capW := rfl
@[simp] theorem State.markCapRace_capR : (s.markCapRace).capR = s.capR := rfl
@[simp] theorem State.markCapRace_pbW : (s.markCapRace).pbW = s.pbW := rfl
@[simp] theorem State.markCapRace_pbR : (s.markCapRace).pbR = s.pbR := rfl
@[simp] theorem State.markCapRace_fillIdx : (s.markCapRace).fillIdx = s.fillIdx := rfl
@[simp] theorem State.markCapRace_drainIdx : (s.markCapRace).drainIdx = s.drainIdx := rfl
@[simp] theorem State.markCapRace_fg : (s.markCapRace).fg = s.fg := rfl
@[simp] theorem State.markCapRace_blbl : (s.markCapRace).blbl = s.blbl := rfl
@[simp] theorem State.markCapRace_psample : (s.markCapRace).psample = s.psample := rfl
@[simp] theorem State.markCapRace_guard : (s.markCapRace).guard = s.guard := rfl
@[simp] theorem State.markCapRace_istack : (s.markCapRace).istack = s.istack := rfl
@[simp] theorem State.markCapRace_ovr : (s.markCapRace).ovr = s.ovr := rfl
@[simp] theorem State.markCapRace_rdata : (s.markCapRace).rdata = s.rdata := rfl
@[simp] theorem State.markCapRace_mres : (s.markCapRace).mres = s.mres := rfl
@[simp] theorem State.markCapRace_faulted : (s.markCapRace).faulted = s.faulted := rfl
@[simp] theorem State.markCapRace_refused : (s.markCapRace).refused = s.refused := rfl
@[simp] theorem State.markCapRace_capRace : (s.markCapRace).capRace = (s.capRace || (decide (s.fg = .bBusy) && decide (s.capW = s.blbl))) := rfl
@[simp] theorem State.markCapRace_pbRace : (s.markCapRace).pbRace = s.pbRace := rfl
@[simp] theorem State.markCapRace_pending : (s.markCapRace).pending = s.pending := rfl
@[simp] theorem State.markCapRace_trace : (s.markCapRace).trace = s.trace := rfl
@[simp] theorem State.markCapRace_draws : (s.markCapRace).draws = s.draws := rfl

@[simp] theorem State.markPbRace_cst : (s.markPbRace).cst = s.cst := rfl
@[simp] theorem State.markPbRace_fcause : (s.markPbRace).fcause = s.fcause := rfl
@[simp] theorem State.markPbRace_mode : (s.markPbRace).mode = s.mode := rfl
@[simp] theorem State.markPbRace_rate : (s.markPbRace).rate = s.rate := rfl
@[simp] theorem State.markPbRace_src : (s.markPbRace).src = s.src := rfl
@[simp] theorem State.markPbRace_len : (s.markPbRace).len = s.len := rfl
@[simp] theorem State.markPbRace_mem : (s.markPbRace).mem = s.mem := rfl
@[simp] theorem State.markPbRace_capW : (s.markPbRace).capW = s.capW := rfl
@[simp] theorem State.markPbRace_capR : (s.markPbRace).capR = s.capR := rfl
@[simp] theorem State.markPbRace_pbW : (s.markPbRace).pbW = s.pbW := rfl
@[simp] theorem State.markPbRace_pbR : (s.markPbRace).pbR = s.pbR := rfl
@[simp] theorem State.markPbRace_fillIdx : (s.markPbRace).fillIdx = s.fillIdx := rfl
@[simp] theorem State.markPbRace_drainIdx : (s.markPbRace).drainIdx = s.drainIdx := rfl
@[simp] theorem State.markPbRace_fg : (s.markPbRace).fg = s.fg := rfl
@[simp] theorem State.markPbRace_blbl : (s.markPbRace).blbl = s.blbl := rfl
@[simp] theorem State.markPbRace_psample : (s.markPbRace).psample = s.psample := rfl
@[simp] theorem State.markPbRace_guard : (s.markPbRace).guard = s.guard := rfl
@[simp] theorem State.markPbRace_istack : (s.markPbRace).istack = s.istack := rfl
@[simp] theorem State.markPbRace_ovr : (s.markPbRace).ovr = s.ovr := rfl
@[simp] theorem State.markPbRace_rdata : (s.markPbRace).rdata = s.rdata := rfl
@[simp] theorem State.markPbRace_mres : (s.markPbRace).mres = s.mres := rfl
@[simp] theorem State.markPbRace_faulted : (s.markPbRace).faulted = s.faulted := rfl
@[simp] theorem State.markPbRace_refused : (s.markPbRace).refused = s.refused := rfl
@[simp] theorem State.markPbRace_capRace : (s.markPbRace).capRace = s.capRace := rfl
@[simp] theorem State.markPbRace_pbRace : (s.markPbRace).pbRace = (s.pbRace || (decide (s.fg = .bBusy) && decide (s.pbR = s.blbl))) := rfl
@[simp] theorem State.markPbRace_pending : (s.markPbRace).pending = s.pending := rfl
@[simp] theorem State.markPbRace_trace : (s.markPbRace).trace = s.trace := rfl
@[simp] theorem State.markPbRace_draws : (s.markPbRace).draws = s.draws := rfl

@[simp] theorem State.measure_cst (oh cb : Trials) : (s.measure oh cb).cst = s.cst := rfl
@[simp] theorem State.measure_fcause (oh cb : Trials) : (s.measure oh cb).fcause = s.fcause := rfl
@[simp] theorem State.measure_mode (oh cb : Trials) : (s.measure oh cb).mode = s.mode := rfl
@[simp] theorem State.measure_rate (oh cb : Trials) : (s.measure oh cb).rate = s.rate := rfl
@[simp] theorem State.measure_src (oh cb : Trials) : (s.measure oh cb).src = s.src := rfl
@[simp] theorem State.measure_len (oh cb : Trials) : (s.measure oh cb).len = s.len := rfl
@[simp] theorem State.measure_mem (oh cb : Trials) : (s.measure oh cb).mem = s.mem := rfl
@[simp] theorem State.measure_capW (oh cb : Trials) : (s.measure oh cb).capW = s.capW := rfl
@[simp] theorem State.measure_capR (oh cb : Trials) : (s.measure oh cb).capR = s.capR := rfl
@[simp] theorem State.measure_pbW (oh cb : Trials) : (s.measure oh cb).pbW = s.pbW := rfl
@[simp] theorem State.measure_pbR (oh cb : Trials) : (s.measure oh cb).pbR = s.pbR := rfl
@[simp] theorem State.measure_fillIdx (oh cb : Trials) : (s.measure oh cb).fillIdx = s.fillIdx := rfl
@[simp] theorem State.measure_drainIdx (oh cb : Trials) : (s.measure oh cb).drainIdx = s.drainIdx := rfl
@[simp] theorem State.measure_fg (oh cb : Trials) : (s.measure oh cb).fg = s.fg := rfl
@[simp] theorem State.measure_blbl (oh cb : Trials) : (s.measure oh cb).blbl = s.blbl := rfl
@[simp] theorem State.measure_psample (oh cb : Trials) : (s.measure oh cb).psample = s.psample := rfl
@[simp] theorem State.measure_guard (oh cb : Trials) : (s.measure oh cb).guard = s.guard := rfl
@[simp] theorem State.measure_istack (oh cb : Trials) : (s.measure oh cb).istack = s.istack := rfl
@[simp] theorem State.measure_ovr (oh cb : Trials) : (s.measure oh cb).ovr = s.ovr := rfl
@[simp] theorem State.measure_rdata (oh cb : Trials) : (s.measure oh cb).rdata = s.rdata := rfl
@[simp] theorem State.measure_mres (oh cb : Trials) : (s.measure oh cb).mres = netLatency oh cb := rfl
@[simp] theorem State.measure_faulted (oh cb : Trials) : (s.measure oh cb).faulted = s.faulted := rfl
@[simp] theorem State.measure_refused (oh cb : Trials) : (s.measure oh cb).refused = s.refused := rfl
@[simp] theorem State.measure_capRace (oh cb : Trials) : (s.measure oh cb).capRace = s.capRace := rfl
@[simp] theorem State.measure_pbRace (oh cb : Trials) : (s.measure oh cb).pbRace = s.pbRace := rfl
@[simp] theorem State.measure_pending (oh cb : Trials) : (s.measure oh cb).pending = s.pending := rfl
@[simp] theorem State.measure_trace (oh cb : Trials) : (s.measure oh cb).trace = s.trace := rfl
@[simp] theorem State.measure_draws (oh cb : Trials) : (s.measure oh cb).draws = s.draws + 22 := rfl

@[simp] theorem State.configure_cst (m : Mode) (r : BitVec 4) (c : BitVec 2) (l : BitVec 3) : (s.configure m r c l).cst = .configured := rfl
@[simp] theorem State.configure_fcause (m : Mode) (r : BitVec 4) (c : BitVec 2) (l : BitVec 3) : (s.configure m r c l).fcause = s.fcause := rfl
@[simp] theorem State.configure_mode (m : Mode) (r : BitVec 4) (c : BitVec 2) (l : BitVec 3) : (s.configure m r c l).mode = m := rfl
@[simp] theorem State.configure_rate (m : Mode) (r : BitVec 4) (c : BitVec 2) (l : BitVec 3) : (s.configure m r c l).rate = r := rfl
@[simp] theorem State.configure_src (m : Mode) (r : BitVec 4) (c : BitVec 2) (l : BitVec 3) : (s.configure m r c l).src = c := rfl
@[simp] theorem State.configure_len (m : Mode) (r : BitVec 4) (c : BitVec 2) (l : BitVec 3) : (s.configure m r c l).len = (if validLen l then l else 0) := rfl
@[simp] theorem State.configure_mem (m : Mode) (r : BitVec 4) (c : BitVec 2) (l : BitVec 3) : (s.configure m r c l).mem = [] := rfl
@[simp] theorem State.configure_capW (m : Mode) (r : BitVec 4) (c : BitVec 2) (l : BitVec 3) : (s.configure m r c l).capW = s.capW := rfl
@[simp] theorem State.configure_capR (m : Mode) (r : BitVec 4) (c : BitVec 2) (l : BitVec 3) : (s.configure m r c l).capR = s.capR := rfl
@[simp] theorem State.configure_pbW (m : Mode) (r : BitVec 4) (c : BitVec 2) (l : BitVec 3) : (s.configure m r c l).pbW = s.pbW := rfl
@[simp] theorem State.configure_pbR (m : Mode) (r : BitVec 4) (c : BitVec 2) (l : BitVec 3) : (s.configure m r c l).pbR = s.pbR := rfl
@[simp] theorem State.configure_fillIdx (m : Mode) (r : BitVec 4) (c : BitVec 2) (l : BitVec 3) : (s.configure m r c l).fillIdx = s.fillIdx := rfl
@[simp] theorem State.configure_drainIdx (m : Mode) (r : BitVec 4) (c : BitVec 2) (l : BitVec 3) : (s.configure m r c l).drainIdx = s.drainIdx := rfl
@[simp] theorem State.configure_fg (m : Mode) (r : BitVec 4) (c : BitVec 2) (l : BitVec 3) : (s.configure m r c l).fg = s.fg := rfl
@[simp] theorem State.configure_blbl (m : Mode) (r : BitVec 4) (c : BitVec 2) (l : BitVec 3) : (s.configure m r c l).blbl = s.blbl := rfl
@[simp] theorem State.configure_psample (m : Mode) (r : BitVec 4) (c : BitVec 2) (l : BitVec 3) : (s.configure m r c l).psample = s.psample := rfl
@[simp] theorem State.configure_guard (m : Mode) (r : BitVec 4) (c : BitVec 2) (l : BitVec 3) : (s.configure m r c l).guard = s.guard := rfl
@[simp] theorem State.configure_istack (m : Mode) (r : BitVec 4) (c : BitVec 2) (l : BitVec 3) : (s.configure m r c l).istack = s.istack := rfl
@[simp] theorem State.configure_ovr (m : Mode) (r : BitVec 4) (c : BitVec 2) (l : BitVec 3) : (s.configure m r c l).ovr = s.ovr := rfl
@[simp] theorem State.configure_rdata (m : Mode) (r : BitVec 4) (c : BitVec 2) (l : BitVec 3) : (s.configure m r c l).rdata = s.rdata := rfl
@[simp] theorem State.configure_mres (m : Mode) (r : BitVec 4) (c : BitVec 2) (l : BitVec 3) : (s.configure m r c l).mres = s.mres := rfl
@[simp] theorem State.configure_faulted (m : Mode) (r : BitVec 4) (c : BitVec 2) (l : BitVec 3) : (s.configure m r c l).faulted = s.faulted := rfl
@[simp] theorem State.configure_refused (m : Mode) (r : BitVec 4) (c : BitVec 2) (l : BitVec 3) : (s.configure m r c l).refused = s.refused := rfl
@[simp] theorem State.configure_capRace (m : Mode) (r : BitVec 4) (c : BitVec 2) (l : BitVec 3) : (s.configure m r c l).capRace = s.capRace := rfl
@[simp] theorem State.configure_pbRace (m : Mode) (r : BitVec 4) (c : BitVec 2) (l : BitVec 3) : (s.configure m r c l).pbRace = s.pbRace := rfl
@[simp] theorem State.configure_pending (m : Mode) (r : BitVec 4) (c : BitVec 2) (l : BitVec 3) : (s.configure m r c l).pending = s.pending := rfl
@[simp] theorem State.configure_trace (m : Mode) (r : BitVec 4) (c : BitVec 2) (l : BitVec 3) : (s.configure m r c l).trace = s.trace := rfl
@[simp] theorem State.configure_draws (m : Mode) (r : BitVec 4) (c : BitVec 2) (l : BitVec 3) : (s.configure m r c l).draws = s.draws := rfl

@[simp] theorem State.grant_cst : (s.grant).cst = s.cst := rfl
@[simp] theorem State.grant_fcause : (s.grant).fcause = s.fcause := rfl
@[simp] theorem State.grant_mode : (s.grant).mode = s.mode := rfl
@[simp] theorem State.grant_rate : (s.grant).rate = s.rate := rfl
@[simp] theorem State.grant_src : (s.grant).src = s.src := rfl
@[simp] theorem State.grant_len : (s.grant).len = s.len := rfl
@[simp] theorem State.grant_mem : (s.grant).mem = s.mem := rfl
@[simp] theorem State.grant_capW : (s.grant).capW = s.capW := rfl
@[simp] theorem State.grant_capR : (s.grant).capR = s.capR := rfl
@[simp] theorem State.grant_pbW : (s.grant).pbW = s.pbW := rfl
@[simp] theorem State.grant_pbR : (s.grant).pbR = s.pbR := rfl
@[simp] theorem State.grant_fillIdx : (s.grant).fillIdx = s.fillIdx := rfl
@[simp] theorem State.grant_drainIdx : (s.grant).drainIdx = s.drainIdx := rfl
@[simp] theorem State.grant_fg : (s.grant).fg = .bBusy := rfl
@[simp] theorem State.grant_blbl : (s.grant).blbl = other s.capR := rfl
@[simp] theorem State.grant_psample : (s.grant).psample = s.psample := rfl
@[simp] theorem State.grant_guard : (s.grant).guard = s.guard := rfl
@[simp] theorem State.grant_istack : (s.grant).istack = s.istack := rfl
@[simp] theorem State.grant_ovr : (s.grant).ovr = s.ovr := rfl
@[simp] theorem State.grant_rdata : (s.grant).rdata = s.rdata := rfl
@[simp] theorem State.grant_mres : (s.grant).mres = s.mres := rfl
@[simp] theorem State.grant_faulted : (s.grant).faulted = s.faulted := rfl
@[simp] theorem State.grant_refused : (s.grant).refused = s.refused := rfl
@[simp] theorem State.grant_capRace : (s.grant).capRace = s.capRace := rfl
@[simp] theorem State.grant_pbRace : (s.grant).pbRace = s.pbRace := rfl
@[simp] theorem State.grant_pending : (s.grant).pending = s.pending := rfl
@[simp] theorem State.grant_trace : (s.grant).trace = s.trace ++ [.breq (other s.capR)] := rfl
@[simp] theorem State.grant_draws : (s.grant).draws = s.draws := rfl

@[simp] theorem State.publish_cst : (s.publish).cst = s.cst := rfl
@[simp] theorem State.publish_fcause : (s.publish).fcause = s.fcause := rfl
@[simp] theorem State.publish_mode : (s.publish).mode = s.mode := rfl
@[simp] theorem State.publish_rate : (s.publish).rate = s.rate := rfl
@[simp] theorem State.publish_src : (s.publish).src = s.src := rfl
@[simp] theorem State.publish_len : (s.publish).len = s.len := rfl
@[simp] theorem State.publish_mem : (s.publish).mem = s.mem := rfl
@[simp] theorem State.publish_capW : (s.publish).capW = s.capW := rfl
@[simp] theorem State.publish_capR : (s.publish).capR = s.blbl := rfl
@[simp] theorem State.publish_pbW : (s.publish).pbW = s.blbl := rfl
@[simp] theorem State.publish_pbR : (s.publish).pbR = s.pbR := rfl
@[simp] theorem State.publish_fillIdx : (s.publish).fillIdx = s.fillIdx := rfl
@[simp] theorem State.publish_drainIdx : (s.publish).drainIdx = s.drainIdx := rfl
@[simp] theorem State.publish_fg : (s.publish).fg = .bPoll := rfl
@[simp] theorem State.publish_blbl : (s.publish).blbl = s.blbl := rfl
@[simp] theorem State.publish_psample : (s.publish).psample = s.psample := rfl
@[simp] theorem State.publish_guard : (s.publish).guard = s.guard := rfl
@[simp] theorem State.publish_istack : (s.publish).istack = s.istack := rfl
@[simp] theorem State.publish_ovr : (s.publish).ovr = s.ovr := rfl
@[simp] theorem State.publish_rdata : (s.publish).rdata = s.rdata := rfl
@[simp] theorem State.publish_mres : (s.publish).mres = s.mres := rfl
@[simp] theorem State.publish_faulted : (s.publish).faulted = s.faulted := rfl
@[simp] theorem State.publish_refused : (s.publish).refused = s.refused := rfl
@[simp] theorem State.publish_capRace : (s.publish).capRace = s.capRace := rfl
@[simp] theorem State.publish_pbRace : (s.publish).pbRace = s.pbRace := rfl
@[simp] theorem State.publish_pending : (s.publish).pending = s.pending := rfl
@[simp] theorem State.publish_trace : (s.publish).trace = s.trace := rfl
@[simp] theorem State.publish_draws : (s.publish).draws = s.draws := rfl

@[simp] theorem State.fetchSample_cst (x : Sample) : (s.fetchSample x).cst = s.cst := rfl
@[simp] theorem State.fetchSample_fcause (x : Sample) : (s.fetchSample x).fcause = s.fcause := rfl
@[simp] theorem State.fetchSample_mode (x : Sample) : (s.fetchSample x).mode = s.mode := rfl
@[simp] theorem State.fetchSample_rate (x : Sample) : (s.fetchSample x).rate = s.rate := rfl
@[simp] theorem State.fetchSample_src (x : Sample) : (s.fetchSample x).src = s.src := rfl
@[simp] theorem State.fetchSample_len (x : Sample) : (s.fetchSample x).len = s.len := rfl
@[simp] theorem State.fetchSample_mem (x : Sample) : (s.fetchSample x).mem = s.mem := rfl
@[simp] theorem State.fetchSample_capW (x : Sample) : (s.fetchSample x).capW = s.capW := rfl
@[simp] theorem State.fetchSample_capR (x : Sample) : (s.fetchSample x).capR = s.capR := rfl
@[simp] theorem State.fetchSample_pbW (x : Sample) : (s.fetchSample x).pbW = s.pbW := rfl
@[simp] theorem State.fetchSample_pbR (x : Sample) : (s.fetchSample x).pbR = s.pbR := rfl
@[simp] theorem State.fetchSample_fillIdx (x : Sample) : (s.fetchSample x).fillIdx = s.fillIdx := rfl
@[simp] theorem State.fetchSample_drainIdx (x : Sample) : (s.fetchSample x).drainIdx = s.drainIdx := rfl
@[simp] theorem State.fetchSample_fg (x : Sample) : (s.fetchSample x).fg = .pXf := rfl
@[simp] theorem State.fetchSample_blbl (x : Sample) : (s.fetchSample x).blbl = s.blbl := rfl
@[simp] theorem State.fetchSample_psample (x : Sample) : (s.fetchSample x).psample = x := rfl
@[simp] theorem State.fetchSample_guard (x : Sample) : (s.fetchSample x).guard = s.guard := rfl
@[simp] theorem State.fetchSample_istack (x : Sample) : (s.fetchSample x).istack = s.istack := rfl
@[simp] theorem State.fetchSample_ovr (x : Sample) : (s.fetchSample x).ovr = s.ovr := rfl
@[simp] theorem State.fetchSample_rdata (x : Sample) : (s.fetchSample x).rdata = s.rdata := rfl
@[simp] theorem State.fetchSample_mres (x : Sample) : (s.fetchSample x).mres = s.mres := rfl
@[simp] theorem State.fetchSample_faulted (x : Sample) : (s.fetchSample x).faulted = s.faulted := rfl
@[simp] theorem State.fetchSample_refused (x : Sample) : (s.fetchSample x).refused = s.refused := rfl
@[simp] theorem State.fetchSample_capRace (x : Sample) : (s.fetchSample x).capRace = s.capRace := rfl
@[simp] theorem State.fetchSample_pbRace (x : Sample) : (s.fetchSample x).pbRace = s.pbRace := rfl
@[simp] theorem State.fetchSample_pending (x : Sample) : (s.fetchSample x).pending = s.pending := rfl
@[simp] theorem State.fetchSample_trace (x : Sample) : (s.fetchSample x).trace = s.trace ++ [.sreq x] := rfl
@[simp] theorem State.fetchSample_draws (x : Sample) : (s.fetchSample x).draws = s.draws := rfl

@[simp] theorem State.enterInvocation_cst (v : Sample) : (s.enterInvocation v).cst = s.cst := rfl
@[simp] theorem State.enterInvocation_fcause (v : Sample) : (s.enterInvocation v).fcause = s.fcause := rfl
@[simp] theorem State.enterInvocation_mode (v : Sample) : (s.enterInvocation v).mode = s.mode := rfl
@[simp] theorem State.enterInvocation_rate (v : Sample) : (s.enterInvocation v).rate = s.rate := rfl
@[simp] theorem State.enterInvocation_src (v : Sample) : (s.enterInvocation v).src = s.src := rfl
@[simp] theorem State.enterInvocation_len (v : Sample) : (s.enterInvocation v).len = s.len := rfl
@[simp] theorem State.enterInvocation_mem (v : Sample) : (s.enterInvocation v).mem = s.mem := rfl
@[simp] theorem State.enterInvocation_capW (v : Sample) : (s.enterInvocation v).capW = s.capW := rfl
@[simp] theorem State.enterInvocation_capR (v : Sample) : (s.enterInvocation v).capR = s.capR := rfl
@[simp] theorem State.enterInvocation_pbW (v : Sample) : (s.enterInvocation v).pbW = s.pbW := rfl
@[simp] theorem State.enterInvocation_pbR (v : Sample) : (s.enterInvocation v).pbR = s.pbR := rfl
@[simp] theorem State.enterInvocation_fillIdx (v : Sample) : (s.enterInvocation v).fillIdx = s.fillIdx := rfl
@[simp] theorem State.enterInvocation_drainIdx (v : Sample) : (s.enterInvocation v).drainIdx = s.drainIdx := rfl
@[simp] theorem State.enterInvocation_fg (v : Sample) : (s.enterInvocation v).fg = s.fg := rfl
@[simp] theorem State.enterInvocation_blbl (v : Sample) : (s.enterInvocation v).blbl = s.blbl := rfl
@[simp] theorem State.enterInvocation_psample (v : Sample) : (s.enterInvocation v).psample = s.psample := rfl
@[simp] theorem State.enterInvocation_guard (v : Sample) : (s.enterInvocation v).guard = s.guard := rfl
@[simp] theorem State.enterInvocation_istack (v : Sample) : (s.enterInvocation v).istack = s.istack ++ [v] := rfl
@[simp] theorem State.enterInvocation_ovr (v : Sample) : (s.enterInvocation v).ovr = s.ovr := rfl
@[simp] theorem State.enterInvocation_rdata (v : Sample) : (s.enterInvocation v).rdata = s.rdata := rfl
@[simp] theorem State.enterInvocation_mres (v : Sample) : (s.enterInvocation v).mres = s.mres := rfl
@[simp] theorem State.enterInvocation_faulted (v : Sample) : (s.enterInvocation v).faulted = s.faulted := rfl
@[simp] theorem State.enterInvocation_refused (v : Sample) : (s.enterInvocation v).refused = s.refused := rfl
@[simp] theorem State.enterInvocation_capRace (v : Sample) : (s.enterInvocation v).capRace = s.capRace := rfl
@[simp] theorem State.enterInvocation_pbRace (v : Sample) : (s.enterInvocation v).pbRace = s.pbRace := rfl
@[simp] theorem State.enterInvocation_pending (v : Sample) : (s.enterInvocation v).pending = s.pending := rfl
@[simp] theorem State.enterInvocation_trace (v : Sample) : (s.enterInvocation v).trace = s.trace ++ [.sreq v] := rfl
@[simp] theorem State.enterInvocation_draws (v : Sample) : (s.enterInvocation v).draws = s.draws := rfl

@[simp] theorem State.leaveInvocation_cst (y : Sample) : (s.leaveInvocation y).cst = s.cst := rfl
@[simp] theorem State.leaveInvocation_fcause (y : Sample) : (s.leaveInvocation y).fcause = s.fcause := rfl
@[simp] theorem State.leaveInvocation_mode (y : Sample) : (s.leaveInvocation y).mode = s.mode := rfl
@[simp] theorem State.leaveInvocation_rate (y : Sample) : (s.leaveInvocation y).rate = s.rate := rfl
@[simp] theorem State.leaveInvocation_src (y : Sample) : (s.leaveInvocation y).src = s.src := rfl
@[simp] theorem State.leaveInvocation_len (y : Sample) : (s.leaveInvocation y).len = s.len := rfl
@[simp] theorem State.leaveInvocation_mem (y : Sample) : (s.leaveInvocation y).mem = s.mem := rfl
@[simp] theorem State.leaveInvocation_capW (y : Sample) : (s.leaveInvocation y).capW = s.capW := rfl
@[simp] theorem State.leaveInvocation_capR (y : Sample) : (s.leaveInvocation y).capR = s.capR := rfl
@[simp] theorem State.leaveInvocation_pbW (y : Sample) : (s.leaveInvocation y).pbW = s.pbW := rfl
@[simp] theorem State.leaveInvocation_pbR (y : Sample) : (s.leaveInvocation y).pbR = s.pbR := rfl
@[simp] theorem State.leaveInvocation_fillIdx (y : Sample) : (s.leaveInvocation y).fillIdx = s.fillIdx := rfl
@[simp] theorem State.leaveInvocation_drainIdx (y : Sample) : (s.leaveInvocation y).drainIdx = s.drainIdx := rfl
@[simp] theorem State.leaveInvocation_fg (y : Sample) : (s.leaveInvocation y).fg = s.fg := rfl
@[simp] theorem State.leaveInvocation_blbl (y : Sample) : (s.leaveInvocation y).blbl = s.blbl := rfl
@[simp] theorem State.leaveInvocation_psample (y : Sample) : (s.leaveInvocation y).psample = s.psample := rfl
@[simp] theorem State.leaveInvocation_guard (y : Sample) : (s.leaveInvocation y).guard = s.guard := rfl
@[simp] theorem State.leaveInvocation_istack (y : Sample) : (s.leaveInvocation y).istack = s.istack.dropLast := rfl
@[simp] theorem State.leaveInvocation_ovr (y : Sample) : (s.leaveInvocation y).ovr = s.ovr := rfl
@[simp] theorem State.leaveInvocation_rdata (y : Sample) : (s.leaveInvocation y).rdata = s.rdata := rfl
@[simp] theorem State.leaveInvocation_mres (y : Sample) : (s.leaveInvocation y).mres = s.mres := rfl
@[simp] theorem State.leaveInvocation_faulted (y : Sample) : (s.leaveInvocation y).faulted = s.faulted := rfl
@[simp] theorem State.leaveInvocation_refused (y : Sample) : (s.leaveInvocation y).refused = s.refused := rfl
@[simp] theorem State.leaveInvocation_capRace (y : Sample) : (s.leaveInvocation y).capRace = s.capRace := rfl
@[simp] theorem State.leaveInvocation_pbRace (y : Sample) : (s.leaveInvocation y).pbRace = s.pbRace := rfl
@[simp] theorem State.leaveInvocation_pending (y : Sample) : (s.leaveInvocation y).pending = s.pending := rfl
@[simp] theorem State.leaveInvocation_trace (y : Sample) : (s.leaveInvocation y).trace = s.trace ++ [.dacOut y] := rfl
@[simp] theorem State.leaveInvocation_draws (y : Sample) : (s.leaveInvocation y).draws = s.draws := rfl

@[simp] theorem State.runInit_cst : (s.runInit).cst = s.cst := rfl
@[simp] theorem State.runInit_fcause : (s.runInit).fcause = s.fcause := rfl
@[simp] theorem State.runInit_mode : (s.runInit).mode = s.mode := rfl
@[simp] theorem State.runInit_rate : (s.runInit).rate = s.rate := rfl
@[simp] theorem State.runInit_src : (s.runInit).src = s.src := rfl
@[simp] theorem State.runInit_len : (s.runInit).len = s.len := rfl
@[simp] theorem State.runInit_mem : (s.runInit).mem = s.mem := rfl
@[simp] theorem State.runInit_capW : (s.runInit).capW = .A := rfl
@[simp] theorem State.runInit_capR : (s.runInit).capR = .B := rfl
@[simp] theorem State.runInit_pbW : (s.runInit).pbW = .B := rfl
@[simp] theorem State.runInit_pbR : (s.runInit).pbR = .A := rfl
@[simp] theorem State.runInit_fillIdx : (s.runInit).fillIdx = 0 := rfl
@[simp] theorem State.runInit_drainIdx : (s.runInit).drainIdx = 0 := rfl
@[simp] theorem State.runInit_fg : (s.runInit).fg = s.fg := rfl
@[simp] theorem State.runInit_blbl : (s.runInit).blbl = .A := rfl
@[simp] theorem State.runInit_psample : (s.runInit).psample = 0 := rfl
@[simp] theorem State.runInit_guard : (s.runInit).guard = false := rfl
@[simp] theorem State.runInit_istack : (s.runInit).istack = [] := rfl
@[simp] theorem State.runInit_ovr : (s.runInit).ovr = false := rfl
@[simp] theorem State.runInit_rdata : (s.runInit).rdata = s.rdata := rfl
@[simp] theorem State.runInit_mres : (s.runInit).mres = s.mres := rfl
@[simp] theorem State.runInit_faulted : (s.runInit).faulted = s.faulted := rfl
@[simp] theorem State.runInit_refused : (s.runInit).refused = s.refused := rfl
@[simp] theorem State.runInit_capRace : (s.runInit).capRace = false := rfl
@[simp] theorem State.runInit_pbRace : (s.runInit).pbRace = false := rfl
@[simp] theorem State.runInit_pending : (s.runInit).pending = s.pending := rfl
@[simp] theorem State.runInit_trace : (s.runInit).trace = s.trace := rfl
@[simp] theorem State.runInit_draws : (s.runInit).draws = s.draws := rfl

@[simp] theorem State.rst_cst : (s.rst).cst = State.reset.cst := rfl
@[simp] theorem State.rst_fcause : (s.rst).fcause = State.reset.fcause := rfl
@[simp] theorem State.rst_mode : (s.rst).mode = State.reset.mode := rfl
@[simp] theorem State.rst_rate : (s.rst).rate = State.reset.rate := rfl
@[simp] theorem State.rst_src : (s.rst).src = State.reset.src := rfl
@[simp] theorem State.rst_len : (s.rst).len = State.reset.len := rfl
@[simp] theorem State.rst_mem : (s.rst).mem = State.reset.mem := rfl
@[simp] theorem State.rst_capW : (s.rst).capW = State.reset.capW := rfl
@[simp] theorem State.rst_capR : (s.rst).capR = State.reset.capR := rfl
@[simp] theorem State.rst_pbW : (s.rst).pbW = State.reset.pbW := rfl
@[simp] theorem State.rst_pbR : (s.rst).pbR = State.reset.pbR := rfl
@[simp] theorem State.rst_fillIdx : (s.rst).fillIdx = State.reset.fillIdx := rfl
@[simp] theorem State.rst_drainIdx : (s.rst).drainIdx = State.reset.drainIdx := rfl
@[simp] theorem State.rst_fg : (s.rst).fg = State.reset.fg := rfl
@[simp] theorem State.rst_blbl : (s.rst).blbl = State.reset.blbl := rfl
@[simp] theorem State.rst_psample : (s.rst).psample = State.reset.psample := rfl
@[simp] theorem State.rst_guard : (s.rst).guard = State.reset.guard := rfl
@[simp] theorem State.rst_istack : (s.rst).istack = State.reset.istack := rfl
@[simp] theorem State.rst_ovr : (s.rst).ovr = State.reset.ovr := rfl
@[simp] theorem State.rst_rdata : (s.rst).rdata = State.reset.rdata := rfl
@[simp] theorem State.rst_mres : (s.rst).mres = State.reset.mres := rfl
@[simp] theorem State.rst_faulted : (s.rst).faulted = s.faulted := rfl
@[simp] theorem State.rst_refused : (s.rst).refused = s.refused := rfl
@[simp] theorem State.rst_capRace : (s.rst).capRace = State.reset.capRace := rfl
@[simp] theorem State.rst_pbRace : (s.rst).pbRace = State.reset.pbRace := rfl
@[simp] theorem State.rst_pending : (s.rst).pending = s.pending := rfl
@[simp] theorem State.rst_trace : (s.rst).trace = s.trace := rfl
@[simp] theorem State.rst_draws : (s.rst).draws = s.draws := rfl

@[simp] theorem State.powerOn_cst : (s.powerOn).cst = State.reset.cst := rfl
@[simp] theorem State.powerOn_fcause : (s.powerOn).fcause = State.reset.fcause := rfl
@[simp] theorem State.powerOn_mode : (s.powerOn).mode = State.reset.mode := rfl
@[simp] theorem State.powerOn_rate : (s.powerOn).rate = State.reset.rate := rfl
@[simp] theorem State.powerOn_src : (s.powerOn).src = State.reset.src := rfl
@[simp] theorem State.powerOn_len : (s.powerOn).len = State.reset.len := rfl
@[simp] theorem State.powerOn_mem : (s.powerOn).mem = State.reset.mem := rfl
@[simp] theorem State.powerOn_capW : (s.powerOn).capW = State.reset.capW := rfl
@[simp] theorem State.powerOn_capR : (s.powerOn).capR = State.reset.capR := rfl
@[simp] theorem State.powerOn_pbW : (s.powerOn).pbW = State.reset.pbW := rfl
@[simp] theorem State.powerOn_pbR : (s.powerOn).pbR = State.reset.pbR := rfl
@[simp] theorem State.powerOn_fillIdx : (s.powerOn).fillIdx = State.reset.fillIdx := rfl
@[simp] theorem State.powerOn_drainIdx : (s.powerOn).drainIdx = State.reset.drainIdx := rfl
@[simp] theorem State.powerOn_fg : (s.powerOn).fg = State.reset.fg := rfl
@[simp] theorem State.powerOn_blbl : (s.powerOn).blbl = State.reset.blbl := rfl
@[simp] theorem State.powerOn_psample : (s.powerOn).psample = State.reset.psample := rfl
@[simp] theorem State.powerOn_guard : (s.powerOn).guard = State.reset.guard := rfl
@[simp] theorem State.powerOn_istack : (s.powerOn).istack = State.reset.istack := rfl
@[simp] theorem State.powerOn_ovr : (s.powerOn).ovr = State.reset.ovr := rfl
@[simp] theorem State.powerOn_rdata : (s.powerOn).rdata = State.reset.rdata := rfl
@[simp] theorem State.powerOn_mres : (s.powerOn).mres = State.reset.mres := rfl
@[simp] theorem State.powerOn_faulted : (s.powerOn).faulted = false := rfl
@[simp] theorem State.powerOn_refused : (s.powerOn).refused = false := rfl
@[simp] theorem State.powerOn_capRace : (s.powerOn).capRace = State.reset.capRace := rfl
@[simp] theorem State.powerOn_pbRace : (s.powerOn).pbRace = State.reset.pbRace := rfl
@[simp] theorem State.powerOn_pending : (s.powerOn).pending = s.pending := rfl
@[simp] theorem State.powerOn_trace : (s.powerOn).trace = s.trace := rfl
@[simp] theorem State.powerOn_draws : (s.powerOn).draws = s.draws := rfl

/-! The agents of inputs and the agent whose step is next. -/

@[simp] theorem agentOfInput_word (w : EventWord) :
    agentOfInput (.word w) = (decode w).toOption.map agentOf := rfl
@[simp] theorem agentOfInput_rst : agentOfInput .rst = some .host := rfl
@[simp] theorem agentOfInput_powerOn : agentOfInput .powerOn = some .host := rfl
theorem State.nextAgent_eq_none (h : s.pending = []) : s.nextAgent = none := by simp [State.nextAgent, h]
theorem State.nextAgent_cons {inp : Input} {rest : List Input} (h : s.pending = inp :: rest) :
    s.nextAgent = agentOfInput inp := by simp [State.nextAgent, h]

end Sys2Proof.Machine
end

