-- ==== Sys2Proof/Laws/Memory.lean ====
section
/-! SUPPORT. The laws of the buffer space: canonical form kept, read after write, equal contents are equal lists. -/
namespace Sys2Proof.Machine

theorem memWfFrom_mono {lo lo' : Nat} (h : lo' ≤ lo) :
    ∀ {m : List (Nat × Sample)}, memWfFrom lo m = true → memWfFrom lo' m = true
  | [], _ => rfl
  | (k, x) :: m, hm => by
    simp only [memWfFrom, Bool.and_eq_true, decide_eq_true_eq] at hm ⊢
    exact ⟨⟨⟨by omega, hm.1.1.2⟩, hm.1.2⟩, hm.2⟩

/-- Nothing is listed below the bound of a canonical memory. -/
theorem memLookup_below {lo a : Nat} (h : a < lo) :
    ∀ {m : List (Nat × Sample)}, memWfFrom lo m = true → memLookup m a = unlisted
  | [], _ => rfl
  | (k, x) :: m, hm => by
    simp only [memWfFrom, Bool.and_eq_true, decide_eq_true_eq] at hm
    have hk : k ≠ a := by omega
    simp only [memLookup, hk, if_false]
    exact memLookup_below (by omega) hm.2

/-- Nothing is listed outside the buffer space. -/
theorem memLookup_outside {a : Nat} (h : bufSpace ≤ a) {lo : Nat} :
    ∀ {m : List (Nat × Sample)}, memWfFrom lo m = true → memLookup m a = unlisted
  | [], _ => rfl
  | (k, x) :: m, hm => by
    simp only [memWfFrom, Bool.and_eq_true, decide_eq_true_eq] at hm
    have hk : k ≠ a := by omega
    simp only [memLookup, hk, if_false]
    exact memLookup_outside h hm.2

theorem memStore_wfFrom {lo a : Nat} {v : Sample} (ha : lo ≤ a) (hb : a < bufSpace) :
    ∀ {m : List (Nat × Sample)}, memWfFrom lo m = true → memWfFrom lo (memStore m a v) = true
  | [], _ => by
    by_cases hv : v = unlisted <;> simp [memStore, memWfFrom, hv, ha, hb]
  | (k, x) :: m, hm => by
    have hm' := hm
    simp only [memWfFrom, Bool.and_eq_true, decide_eq_true_eq] at hm
    obtain ⟨⟨⟨h1, h2⟩, h3⟩, h4⟩ := hm
    simp only [memStore]
    split
    · split
      · exact hm'
      · rename_i hlt hv
        simp [memWfFrom, ha, hb, hv, h2, h3, h4, Nat.succ_le_of_lt hlt]
    · split
      · split
        · exact memWfFrom_mono (by omega) h4
        · rename_i hv
          subst_vars
          simp [memWfFrom, ha, hb, hv, h4]
      · simp [memWfFrom, h1, h2, h3, memStore_wfFrom (lo := k + 1) (by omega) hb h4]

/-- Every store in the buffer space keeps the canonical form. -/
theorem memStore_wf {m : List (Nat × Sample)} {a : Nat} {v : Sample} (hb : a < bufSpace) (h : memWf m = true) :
    memWf (memStore m a v) = true :=
  memStore_wfFrom (Nat.zero_le a) hb h

theorem memStore_lookup_from {lo a b : Nat} {v : Sample} :
    ∀ {m : List (Nat × Sample)}, memWfFrom lo m = true →
      memLookup (memStore m a v) b = if a = b then v else memLookup m b
  | [], _ => by
    by_cases hv : v = unlisted <;> by_cases hab : a = b <;> simp [memStore, memLookup, hv, hab]
  | (k, x) :: m, hm => by
    have hm' := hm
    simp only [memWfFrom, Bool.and_eq_true, decide_eq_true_eq] at hm
    obtain ⟨⟨⟨h1, h2⟩, h3⟩, h4⟩ := hm
    simp only [memStore]
    split
    · rename_i hlt
      have hn : memLookup ((k, x) :: m) a = unlisted :=
        memLookup_below (lo := k) hlt (by simp [memWfFrom, h2, h3, h4])
      split
      · by_cases hab : a = b
        · subst hab; simp [*]
        · simp [hab]
      · by_cases hab : a = b <;> simp [memLookup, hab]
    · split
      · rename_i heq
        subst heq
        have hn : memLookup m a = unlisted := memLookup_below (lo := a + 1) (by omega) h4
        split
        · by_cases hab : a = b
          · subst hab; simp [*]
          · simp [memLookup, hab]
        · by_cases hab : a = b <;> simp [memLookup, hab]
      · rename_i h5 h6
        by_cases hkb : k = b
        · subst hkb; simp [memLookup, h6]
        · simp only [memLookup, hkb, if_false]
          exact memStore_lookup_from h4

/-- A read after a write: the value written at the address written, and the old value at every other. -/
theorem memLookup_memStore {m : List (Nat × Sample)} (h : memWf m = true) (a b : Nat) (v : Sample) :
    memLookup (memStore m a v) b = if a = b then v else memLookup m b :=
  memStore_lookup_from h

/-- Two canonical memories that read alike at every address are the same list. -/
theorem memWfFrom_ext {lo : Nat} :
    ∀ {m m' : List (Nat × Sample)}, memWfFrom lo m = true → memWfFrom lo m' = true →
      (∀ a, memLookup m a = memLookup m' a) → m = m'
  | [], [], _, _, _ => rfl
  | [], (k, x) :: m', _, h', e => by
    simp only [memWfFrom, Bool.and_eq_true, decide_eq_true_eq] at h'
    have := e k
    simp [memLookup] at this
    exact absurd this.symm h'.1.2
  | (k, x) :: m, [], h, _, e => by
    simp only [memWfFrom, Bool.and_eq_true, decide_eq_true_eq] at h
    have := e k
    simp [memLookup] at this
    exact absurd this h.1.2
  | (k, x) :: m, (k', x') :: m', h, h', e => by
    have hw := h
    have hw' := h'
    simp only [memWfFrom, Bool.and_eq_true, decide_eq_true_eq] at h h'
    obtain ⟨⟨⟨h1, h2⟩, h3⟩, h4⟩ := h
    obtain ⟨⟨⟨h1', h2'⟩, h3'⟩, h4'⟩ := h'
    have hk : k = k' := by
      rcases Nat.lt_trichotomy k k' with hlt | heq | hgt
      · have e1 := e k
        rw [memLookup_below (lo := k') hlt (m := (k', x') :: m') (by simp [memWfFrom, h2', h3', h4'])] at e1
        simp [memLookup] at e1
        exact absurd e1 h3
      · exact heq
      · have e1 := e k'
        rw [memLookup_below (lo := k) hgt (m := (k, x) :: m) (by simp [memWfFrom, h2, h3, h4])] at e1
        simp [memLookup] at e1
        exact absurd e1.symm h3'
    subst hk
    have hx : x = x' := by simpa [memLookup] using e k
    subst hx
    have ht : m = m' := memWfFrom_ext h4 h4' fun a => by
      by_cases ha : k = a
      · subst ha
        rw [memLookup_below (lo := k + 1) (by omega) h4, memLookup_below (lo := k + 1) (by omega) h4']
      · simpa [memLookup, ha] using e a
    rw [ht]

theorem memWf_ext {m m' : List (Nat × Sample)} (h : memWf m = true) (h' : memWf m' = true)
    (e : ∀ a, memLookup m a = memLookup m' a) : m = m' :=
  memWfFrom_ext h h' e

/-! ## The same, for the state -/

theorem bufAddr_lt (a : BufAddr) : a.toNat < bufSpace := a.isLt

theorem State.memWrite_wf {s : State} (h : memWf s.mem = true) (a : BufAddr) (v : Sample) :
    memWf (s.memWrite a v).mem = true :=
  memStore_wf (bufAddr_lt a) h

theorem State.memClear_wf (s : State) : memWf s.memClear.mem = true := rfl

theorem State.rst_wf (s : State) : memWf s.rst.mem = true := rfl

theorem State.reset_wf : memWf State.reset.mem = true := rfl

/-- MemRead after MemWrite (20_memory.md R60). -/
theorem State.memRead_memWrite {s : State} (h : memWf s.mem = true) (a b : BufAddr) (v : Sample) :
    (s.memWrite a v).memRead b = if a = b then v else s.memRead b := by
  simp only [State.memRead, State.memWrite_mem, memLookup_memStore h, BitVec.toNat_inj]

@[simp] theorem State.memRead_memClear (s : State) (a : BufAddr) : s.memClear.memRead a = 0 := rfl

theorem State.memRead_eq_of_mem {s t : State} (h : t.mem = s.mem) (a : BufAddr) : t.memRead a = s.memRead a := by
  simp [State.memRead, h]

end Sys2Proof.Machine
end

