-- ==== Sys2Proof/Laws/Outcome.lean ====
section
/-! SUPPORT. What the shared operations of the outcomes can answer: each lemma says it once. -/
namespace Sys2Proof.Machine

/-- The next states that settling an outcome can give. -/
theorem settle_next {s t : State} {r : Result} (h : settle s r = .next t) :
    r = .ok t ∨ (r = .ignored ∧ t = s) ∨ (∃ c, r = .fatal c ∧ t = s.raiseFatal c) ∨
      (∃ q, r = .refuse q ∧ t = s.markRefused) ∨ (∃ q, r = .fault q ∧ t = s.markFaulted) := by
  cases r <;> simp_all [settle]

/-- What `whenRunning` can answer. -/
theorem whenRunning_cases (s : State) (body : Result) :
    (s.cst = .running ∧ whenRunning s body = body) ∨ (s.cst = .fatal ∧ whenRunning s body = .ignored) ∨
      ((s.cst = .unconf ∨ s.cst = .configured) ∧ whenRunning s body = .refuse .notRunning) := by
  unfold whenRunning
  cases s.cst <;> simp

/-- What `inMode` can answer. -/
theorem inMode_cases (m : Mode) (s : State) (body : Result) :
    (s.cst = .running ∧ s.mode = m ∧ inMode m s body = body) ∨
      (s.cst = .running ∧ s.mode ≠ m ∧ inMode m s body = .refuse .wrongMode) ∨
      (s.cst = .fatal ∧ inMode m s body = .ignored) ∨
      ((s.cst = .unconf ∨ s.cst = .configured) ∧ inMode m s body = .refuse .notRunning) := by
  unfold inMode
  rcases whenRunning_cases s (if s.mode = m then body else .refuse .wrongMode) with ⟨h, e⟩ | ⟨h, e⟩ | ⟨h, e⟩ <;>
    rw [e]
  · by_cases hm : s.mode = m <;> simp [h, hm]
  · simp [h]
  · rcases h with h | h <;> simp [h]

/-- What `withLen` can answer. -/
theorem withLen_cases (s : State) (body : Nat → Result) :
    (∃ n, s.bufLen = some n ∧ withLen s body = body n) ∨
      (s.bufLen = none ∧ withLen s body = .undefined .lengthUndefined) := by
  unfold withLen
  cases s.bufLen <;> simp

/-- What an engine access can answer. -/
theorem engineAccess_cases (s : State) (idx : BitVec 7) (body : Result) :
    (s.cst = .running ∧ s.mode = .blockDMA ∧ s.fg = .bBusy ∧ (∃ n, s.bufLen = some n ∧ idx.toNat < n) ∧
        engineAccess s idx body = body) ∨
      engineAccess s idx body = .fault .bufferIndex ∨
      engineAccess s idx body = .undefined .lengthUndefined ∨
      engineAccess s idx body = .ignored ∨
      ∃ q, engineAccess s idx body = .refuse q := by
  unfold engineAccess
  rcases inMode_cases .blockDMA s (if s.fg ≠ .bBusy then .refuse .noInvocation
    else withLen s fun n => if n ≤ idx.toNat then .fault .bufferIndex else body) with
    ⟨h1, h2, e⟩ | ⟨-, -, e⟩ | ⟨-, e⟩ | ⟨-, e⟩ <;> rw [e]
  · by_cases hf : s.fg = .bBusy
    · rcases withLen_cases s (fun n => if n ≤ idx.toNat then .fault .bufferIndex else body) with
        ⟨n, hn, e⟩ | ⟨hn, e⟩ <;> simp only [hf, ne_eq, not_true, if_false, e]
      · by_cases hi : n ≤ idx.toNat
        · simp [hi]
        · simp only [hi, if_false]
          exact .inl ⟨h1, h2, trivial, ⟨n, hn, by omega⟩, trivial⟩
      · simp
    · simp [hf]
  · simp
  · simp
  · simp

/-- `exec` settles the outcome of the event's own rule. -/
theorem exec_eq_settle (i : Instr) (s : State) : exec i s = settle s (resultOf i s) := by
  cases i <;> rfl

/-- Delivering a word settles its outcome. -/
theorem deliverWord_eq_settle (w : EventWord) (s : State) : deliverWord w s = settle s (resultOfWord w s) := by
  unfold deliverWord resultOfWord
  cases decode w with
  | ok i => exact exec_eq_settle i s
  | error e => rfl

/-- What a step that answers a next state did. -/
theorem step_next {s t : State} (h : step s = .next t) :
    (s.pending = [] ∧ t = s) ∨
    (∃ rest, s.pending = .rst :: rest ∧ t = s.takeInput.rst) ∨
    (∃ rest, s.pending = .powerOn :: rest ∧ t = s.takeInput.powerOn) ∨
    (∃ w rest, s.pending = .word w :: rest ∧
      ((∃ i, decode w = .ok i ∧ exec i s.takeInput = .next t) ∨
       (∃ e, decode w = .error e ∧ t = s.takeInput.markRefused))) := by
  simp only [step, portStep] at h
  cases hp : s.pending with
  | nil => simp_all
  | cons inp rest =>
    rw [hp] at h
    cases inp with
    | rst => simp_all [deliver]
    | powerOn => simp_all [deliver]
    | word w =>
      refine .inr (.inr (.inr ⟨w, rest, rfl, ?_⟩))
      simp only [deliver, deliverWord] at h
      cases hd : decode w with
      | ok i => exact .inl ⟨i, rfl, by simpa [hd] using h⟩
      | error e =>
        refine .inr ⟨e, rfl, ?_⟩
        simp only [hd, settle] at h
        exact (Host.Outcome.next.inj h).symm

end Sys2Proof.Machine
end

