-- ==== Sys2Proof/Laws/Phases.lean ====
section
/-! SUPPORT. The producer's phases as one update each, and TICK in BlockDMA. -/
namespace Sys2Proof.Machine

/-- The drain phase as one update (44_block_producer.md R170 to R172). -/
theorem State.drainPhase_eq (s : State) (n : Nat) :
    s.drainPhase n =
      (let swap := s.drainIdx.toNat = n
       let r := if swap then s.pbW else s.pbR
       let d := if swap then 0 else s.drainIdx
       { s with
         pbR := r, drainIdx := d + 1,
         pbRace := s.pbRace || (decide (s.fg = .bBusy) && decide (r = s.blbl)),
         trace := s.trace ++ ((if swap then [.drainSwap s.pbW] else []) ++ [.dacOut (s.memRead (pbAddr r (idxBits d)))]) }) := by
  by_cases h : s.drainIdx.toNat = n <;>
    simp [State.drainPhase, State.drainSwapAt, State.drainOne, State.drainAddr, State.markPbRace, State.emit,
      State.memRead, h]

/-- The capture phase as one update (44_block_producer.md R170, R173 to R175). -/
theorem State.capturePhase_eq (s : State) (n : Nat) (v : Sample) :
    s.capturePhase n v =
      (let full := (s.fillIdx + 1).toNat = n
       { s with
         mem := memStore s.mem s.captureAddr.toNat v,
         capRace := s.capRace || (decide (s.fg = .bBusy) && decide (s.capW = s.blbl)),
         capW := if full then other s.capW else s.capW,
         fillIdx := if full then 0 else s.fillIdx + 1,
         trace := s.trace ++ (if full then [.capDone s.capW] else []) }) := by
  by_cases h : (s.fillIdx + 1).toNat = n <;>
    simp only [State.capturePhase, State.completeAt, State.captureOne, State.markCapRace, State.captureAddr,
      State.memWrite, State.emit, h, if_true, if_false, List.append_nil]

/-- Both phases keep the canonical form of the memory. -/
theorem State.tickPhases_wf {s : State} (h : memWf s.mem = true) (n : Nat) (v : Sample) :
    memWf ((s.drainPhase n).capturePhase n v).mem = true := by
  simp only [State.capturePhase_eq, State.drainPhase_eq]
  exact memStore_wf (bufAddr_lt _) h

/-- What TICK in BlockDMA can answer. -/
theorem tickBlock_cases (v : Sample) (s : State) :
    (∃ n, s.bufLen = some n ∧ s.fillIdx.toNat < n ∧ s.drainIdx.toNat ≤ n ∧
        tickBlock v s = .ok ((s.drainPhase n).capturePhase n v)) ∨
      tickBlock v s = .fault .bufferIndex ∨ tickBlock v s = .undefined .lengthUndefined := by
  unfold tickBlock withLen
  cases s.bufLen with
  | none => simp
  | some n =>
    by_cases h : n ≤ s.fillIdx.toNat ∨ n < s.drainIdx.toNat
    · simp [h]
    · simp only [h, if_false]
      exact .inl ⟨n, rfl, by omega, by omega, rfl⟩

/-- The buffer length is one of the five (10_state.md R15). -/
theorem decodeN_some {l : BitVec 3} {n : Nat} (h : decodeN l = some n) :
    validLen l = true ∧ (n = 8 ∨ n = 16 ∨ n = 32 ∨ n = 64 ∨ n = 128) := by
  revert n
  revert l
  decide +revert

/-- N is defined exactly for the codes 1 to 5. -/
theorem decodeN_isSome (l : BitVec 3) : (decodeN l).isSome = validLen l := by
  revert l
  decide

end Sys2Proof.Machine
end

