-- ==== Sys2Proof/Laws/Events.lean ====
section
/-! SUPPORT. Per event: when its rule answers `ok`, what held before and what the state after is. -/
namespace Sys2Proof.Machine

variable {s t : State}

theorem cfgRule_ok {m : Mode} {r : BitVec 4} {c : BitVec 2} {l : BitVec 3} (h : cfgRule m r c l s = .ok t) :
    s.cst = .unconf ∧ validSrc c = true ∧ (m = .blockDMA → validLen l = true) ∧ validRate r = true ∧
      t = s.configure m r c l := by
  unfold cfgRule at h
  split_ifs at h with h1 h2 h3 h4 h5
  simp_all

theorem runRule_ok (h : runRule s = .ok t) :
    (s.cst = .unconf ∨ s.cst = .configured) ∧ s.mode ≠ .none ∧
      t = { s.runInit with cst := .running, fg := startForeground s.mode } := by
  unfold runRule at h
  split_ifs at h with h1 h2 h3
  refine ⟨?_, ?_, (Result.ok.inj h).symm⟩
  · revert h1 h2
    cases s.cst <;> simp
  · revert h3
    cases s.mode <;> simp [validMode]

theorem tickInterrupt_ok {limit : Option Nat} {v : Sample} (h : tickInterrupt limit v s = .ok t) :
    limit ≠ some s.istack.length ∧ t = s.testAndSetGuard.enterInvocation v := by
  unfold tickInterrupt at h
  split_ifs at h with h1
  exact ⟨h1, (Result.ok.inj h).symm⟩

theorem sdoneInterrupt_ok {y : Sample} (h : sdoneInterrupt y s = .ok t) :
    s.istack ≠ [] ∧ t = (s.leaveInvocation y).clearGuard := by
  unfold sdoneInterrupt at h
  split_ifs at h with h1
  exact ⟨h1, (Result.ok.inj h).symm⟩

theorem sdonePolling_ok {y : Sample} (h : sdonePolling y s = .ok t) :
    s.fg = .pXf ∧ t = (s.emit (.dacOut y)).setFg .pTrig := by
  unfold sdonePolling at h
  split_ifs at h with h1
  exact ⟨not_not.mp h1, (Result.ok.inj h).symm⟩

theorem tickBlock_ok {v : Sample} (h : tickBlock v s = .ok t) :
    ∃ n, s.bufLen = some n ∧ s.fillIdx.toNat < n ∧ s.drainIdx.toNat ≤ n ∧ t = (s.drainPhase n).capturePhase n v := by
  rcases tickBlock_cases v s with ⟨n, h1, h2, h3, e⟩ | e | e <;> rw [e] at h
  · exact ⟨n, h1, h2, h3, (Result.ok.inj h).symm⟩
  · cases h
  · cases h

theorem whenRunning_ok {body : Result} (h : whenRunning s body = .ok t) : s.cst = .running ∧ body = .ok t := by
  rcases whenRunning_cases s body with ⟨h1, e⟩ | ⟨-, e⟩ | ⟨-, e⟩ <;> rw [e] at h
  · exact ⟨h1, h⟩
  · cases h
  · cases h

theorem inMode_ok {m : Mode} {body : Result} (h : inMode m s body = .ok t) :
    s.cst = .running ∧ s.mode = m ∧ body = .ok t := by
  rcases inMode_cases m s body with ⟨h1, h2, e⟩ | ⟨-, -, e⟩ | ⟨-, e⟩ | ⟨-, e⟩ <;> rw [e] at h
  · exact ⟨h1, h2, h⟩
  all_goals cases h

theorem engineAccess_ok {idx : BitVec 7} {body : Result} (h : engineAccess s idx body = .ok t) :
    s.cst = .running ∧ s.mode = .blockDMA ∧ s.fg = .bBusy ∧ (∃ n, s.bufLen = some n ∧ idx.toNat < n) ∧
      body = .ok t := by
  rcases engineAccess_cases s idx body with ⟨h1, h2, h3, h4, e⟩ | e | e | e | ⟨q, e⟩ <;> rw [e] at h
  · exact ⟨h1, h2, h3, h4, h⟩
  all_goals cases h

theorem tickRule_ok {limit : Option Nat} {v : Sample} (h : tickRule limit v s = .ok t) :
    s.cst = .running ∧
      ((s.mode = .interrupt ∧ limit ≠ some s.istack.length ∧ t = s.testAndSetGuard.enterInvocation v) ∨
       (s.mode = .blockDMA ∧ ∃ n, s.bufLen = some n ∧ s.fillIdx.toNat < n ∧ s.drainIdx.toNat ≤ n ∧
          t = (s.drainPhase n).capturePhase n v)) := by
  obtain ⟨h1, h2⟩ := whenRunning_ok h
  refine ⟨h1, ?_⟩
  cases hm : s.mode <;> rw [hm] at h2 <;> simp only [reduceCtorEq] at h2
  · exact .inl ⟨rfl, tickInterrupt_ok h2⟩
  · exact .inr ⟨rfl, tickBlock_ok h2⟩

theorem sdoneRule_ok {y : Sample} (h : sdoneRule y s = .ok t) :
    s.cst = .running ∧
      ((s.mode = .polling ∧ s.fg = .pXf ∧ t = (s.emit (.dacOut y)).setFg .pTrig) ∨
       (s.mode = .interrupt ∧ s.istack ≠ [] ∧ t = (s.leaveInvocation y).clearGuard)) := by
  obtain ⟨h1, h2⟩ := whenRunning_ok h
  refine ⟨h1, ?_⟩
  cases hm : s.mode <;> rw [hm] at h2 <;> simp only [reduceCtorEq] at h2
  · exact .inl ⟨rfl, sdonePolling_ok h2⟩
  · exact .inr ⟨rfl, sdoneInterrupt_ok h2⟩

theorem ptrigRule_ok (h : ptrigRule s = .ok t) :
    s.cst = .running ∧ s.mode = .polling ∧ s.fg = .pTrig ∧ t = (s.emit (.convStart s.src)).setFg .pConv := by
  obtain ⟨h1, h2, h3⟩ := inMode_ok h
  split_ifs at h3 with h4
  exact ⟨h1, h2, not_not.mp h4, (Result.ok.inj h3).symm⟩

theorem cdoneRule_ok {x : Sample} (h : cdoneRule x s = .ok t) :
    s.cst = .running ∧ s.mode = .polling ∧ s.fg = .pConv ∧ t = s.fetchSample x := by
  obtain ⟨h1, h2, h3⟩ := inMode_ok h
  split_ifs at h3 with h4
  exact ⟨h1, h2, not_not.mp h4, (Result.ok.inj h3).symm⟩

theorem bpollRule_ok (h : bpollRule s = .ok t) :
    s.cst = .running ∧ s.mode = .blockDMA ∧ s.fg = .bPoll ∧
      ((s.capW = s.capR ∧ t = s.grant) ∨ (s.capW ≠ s.capR ∧ t = s)) := by
  obtain ⟨h1, h2, h3⟩ := inMode_ok h
  split_ifs at h3 with h4 h5
  · exact ⟨h1, h2, not_not.mp h4, .inl ⟨of_decide_eq_true h5, (Result.ok.inj h3).symm⟩⟩
  · exact ⟨h1, h2, not_not.mp h4, .inr ⟨by simpa [State.bufferReady] using h5, (Result.ok.inj h3).symm⟩⟩

theorem xrdRule_ok {sel : Sel} {idx : BitVec 7} (h : xrdRule sel idx s = .ok t) :
    s.cst = .running ∧ s.mode = .blockDMA ∧ s.fg = .bBusy ∧ (∃ n, s.bufLen = some n ∧ idx.toNat < n) ∧
      t = { s with rdata := s.memRead (s.readAddr sel idx) } := by
  obtain ⟨h1, h2, h3, h4, h5⟩ := engineAccess_ok h
  exact ⟨h1, h2, h3, h4, (Result.ok.inj h5).symm⟩

theorem xwrRule_ok {idx : BitVec 7} {v : Sample} (h : xwrRule idx v s = .ok t) :
    s.cst = .running ∧ s.mode = .blockDMA ∧ s.fg = .bBusy ∧ (∃ n, s.bufLen = some n ∧ idx.toNat < n) ∧
      t = s.memWrite (s.writeAddr idx) v := by
  obtain ⟨h1, h2, h3, h4, h5⟩ := engineAccess_ok h
  exact ⟨h1, h2, h3, h4, (Result.ok.inj h5).symm⟩

theorem bdoneRule_ok (h : bdoneRule s = .ok t) :
    s.cst = .running ∧ s.mode = .blockDMA ∧ s.fg = .bBusy ∧
      t = s.publish := by
  obtain ⟨h1, h2, h3⟩ := inMode_ok h
  split_ifs at h3 with h4
  exact ⟨h1, h2, not_not.mp h4, (Result.ok.inj h3).symm⟩

theorem whenIdle_ok {body : Result} (h : whenIdle s body = .ok t) :
    (s.cst = .unconf ∨ s.cst = .configured) ∧ body = .ok t := by
  unfold whenIdle at h
  cases hc : s.cst <;> rw [hc] at h <;> simp_all

theorem measSampleRule_ok {oh cb : Trials} (h : measSampleRule oh cb s = .ok t) :
    (s.cst = .unconf ∨ s.cst = .configured) ∧ t = s.measure oh cb := by
  obtain ⟨h1, h2⟩ := whenIdle_ok h
  exact ⟨h1, (Result.ok.inj h2).symm⟩

theorem measBlockRule_ok {oh cb : Trials} (h : measBlockRule oh cb s = .ok t) :
    (s.cst = .unconf ∨ s.cst = .configured) ∧ s.len ≠ 0 ∧ t = s.measure oh cb := by
  obtain ⟨h1, h2⟩ := whenIdle_ok h
  split_ifs at h2 with h3
  exact ⟨h1, h3, (Result.ok.inj h2).symm⟩

end Sys2Proof.Machine
end

