-- ==== Sys2Proof/Laws/PerInstr.lean ====
section
/-! SUPPORT. One lemma per constructor of `Instr`: the word of an event is of the row of its own mnemonic
(30_encoding.md R71). -/
namespace Sys2Proof.Laws.SpellsItsRow

/-- Some row of the opcode table has the event's mnemonic and covers the event's word. -/
def Statement (i : Instr) : Prop := ∃ r ∈ opRows, r.mnemonic = i.mnemonic ∧ r.covers (encode i) = true

/-- A word of an operation code, zeros and a payload, under the mask that keeps all but the payload. -/
theorem masked_payload {n m k : Nat} (op : BitVec n) (z : BitVec m) (v : BitVec k) :
    (op ++ z ++ v) &&& (BitVec.allOnes n ++ BitVec.allOnes m ++ 0#k) = op ++ z ++ 0#k := by
  simp only [BitVec.and_append, BitVec.and_allOnes, BitVec.and_zero]

theorem cfg (mode : Mode) (rate : BitVec 4) (src : BitVec 2) (len : BitVec 3) :
    Statement (.cfg mode rate src len) := by
  refine ⟨⟨"CFG", 0xF001FFFF#32, 0x10000000#32⟩, by decide, rfl, ?_⟩
  have h : (0x1#4 ++ bitsOfMode mode ++ rate ++ src ++ len ++ 0#17)
      &&& (BitVec.allOnes 4 ++ 0#2 ++ 0#4 ++ 0#2 ++ 0#3 ++ BitVec.allOnes 17)
      = 0x1#4 ++ 0#2 ++ 0#4 ++ 0#2 ++ 0#3 ++ 0#17 := by
    simp only [BitVec.and_append, BitVec.and_allOnes, BitVec.and_zero]
  exact beq_iff_eq.mpr h

theorem run : Statement .run := by unfold Statement; decide

theorem tick (v : Sample) : Statement (.tick v) :=
  ⟨⟨"TICK", 0xFFFF0000#32, 0x30000000#32⟩, by decide, rfl, beq_iff_eq.mpr (masked_payload 0x3#4 0#12 v)⟩

theorem bpoll : Statement .bpoll := by unfold Statement; decide

theorem ptrig : Statement .ptrig := by unfold Statement; decide

theorem cdone (x : Sample) : Statement (.cdone x) :=
  ⟨⟨"CDONE", 0xFFFF0000#32, 0x60000000#32⟩, by decide, rfl, beq_iff_eq.mpr (masked_payload 0x6#4 0#12 x)⟩

theorem sdone (y : Sample) : Statement (.sdone y) :=
  ⟨⟨"SDONE", 0xFFFF0000#32, 0x70000000#32⟩, by decide, rfl, beq_iff_eq.mpr (masked_payload 0x7#4 0#12 y)⟩

theorem xrd (sel : Sel) (idx : BitVec 7) : Statement (.xrd sel idx) := by
  refine ⟨⟨"XRD", 0xFFFFFF00#32, 0x80000000#32⟩, by decide, rfl, ?_⟩
  have h : (0x8#4 ++ 0#20 ++ bitsOfSel sel ++ idx) &&& (BitVec.allOnes 4 ++ BitVec.allOnes 20 ++ 0#1 ++ 0#7)
      = 0x8#4 ++ 0#20 ++ 0#1 ++ 0#7 := by
    simp only [BitVec.and_append, BitVec.and_allOnes, BitVec.and_zero]
  exact beq_iff_eq.mpr h

theorem xwr (idx : BitVec 7) (v : Sample) : Statement (.xwr idx v) := by
  refine ⟨⟨"XWR", 0xFF800000#32, 0x90000000#32⟩, by decide, rfl, ?_⟩
  have h : (0x9#4 ++ 0#5 ++ idx ++ v) &&& (BitVec.allOnes 4 ++ BitVec.allOnes 5 ++ 0#7 ++ 0#16)
      = 0x9#4 ++ 0#5 ++ 0#7 ++ 0#16 := by
    simp only [BitVec.and_append, BitVec.and_allOnes, BitVec.and_zero]
  exact beq_iff_eq.mpr h

theorem bdone : Statement .bdone := by unfold Statement; decide

theorem measS : Statement .measS := by unfold Statement; decide

theorem measB : Statement .measB := by unfold Statement; decide

end Sys2Proof.Laws.SpellsItsRow
end

