-- ==== Sys2Proof/Tests/Slice0.lean ====
section
/-! SUPPORT. Small tests, each one word or one step, with the expected result taken from spec/ (95_test_vectors.md unless
said otherwise), and a witness for the hypotheses of every statement. -/
namespace Sys2Proof.Tests
open Sys2Proof Sys2Proof.Machine

/-! ## States -/

/-- A RUNNING Polling state. -/
def poll (f : Foreground) : State := { State.reset with cst := .running, mode := .polling, fg := f }

/-- A RUNNING Interrupt state. -/
def intr (guard : Bool) (stack : List Sample) : State :=
  { State.reset with cst := .running, mode := .interrupt, fg := .iWait, guard := guard, istack := stack }

/-- A RUNNING BlockDMA state with N = 8. -/
def block (f : Foreground) (fill drain : BitVec 8) : State :=
  { State.reset with cst := .running, mode := .blockDMA, len := 1, fg := f, fillIdx := fill, drainIdx := drain }

/-- A RUNNING BlockDMA state with buffer A granted: CAP_W = CAP_R = B, BLBL = A, CAP_A[3] = 0x0104. -/
def granted : State := { block .bBusy 0 8 with capW := .B, mem := [(3, 0x0104)] }

/-- The granted state with another output so far and another input to come. -/
def grantedSeen : State := { granted with trace := [.dacOut 5], pending := [.rst] }

/-- A CONFIGURED BlockDMA state with N = 8. -/
def configured : State := { State.reset with cst := .configured, mode := .blockDMA, len := 1 }

/-- A FATAL state. -/
def fatal : State := { State.reset with cst := .fatal, fcause := 1 }

/-- An event answers this next state. -/
def answers (o : StepOutcome) (p : State → Bool) : Bool :=
  match o with
  | .next t => p t
  | _ => false

/-! ## Decoding: one written word per event (30_encoding.md R72 to R77) -/

theorem test_decode_cfg : decode 0x14D00000#32 = .ok (.cfg .interrupt 3 1 0) := by decide
theorem test_decode_cfg_all_fields : decode 0x1BCA0000#32 = .ok (.cfg .blockDMA 15 0 5) := by decide
theorem test_decode_run : decode 0x20000000#32 = .ok .run := by decide
theorem test_decode_tick : decode 0x3000FFFC#32 = .ok (.tick 0xFFFC) := by decide
theorem test_decode_bpoll : decode 0x40000000#32 = .ok .bpoll := by decide
theorem test_decode_ptrig : decode 0x50000000#32 = .ok .ptrig := by decide
theorem test_decode_cdone : decode 0x60001234#32 = .ok (.cdone 0x1234) := by decide
theorem test_decode_sdone : decode 0x70004321#32 = .ok (.sdone 0x4321) := by decide
theorem test_decode_xrd_cap : decode 0x80000003#32 = .ok (.xrd .cap 3) := by decide
theorem test_decode_xrd_pb : decode 0x800000FF#32 = .ok (.xrd .pb 127) := by decide
theorem test_decode_xwr : decode 0x90030104#32 = .ok (.xwr 3 0x0104) := by decide
theorem test_decode_bdone : decode 0xA0000000#32 = .ok .bdone := by decide
theorem test_decode_measS : decode 0xB0000000#32 = .ok .measS := by decide
theorem test_decode_measB : decode 0xB0000001#32 = .ok .measB := by decide
theorem test_encode_cfg : encode (.cfg .blockDMA 0 0 1) = 0x18020000#32 := by decide
theorem test_encode_xwr : encode (.xwr 3 0x0104) = 0x90030104#32 := by decide

/-! ## Ill-formed words: one per check (30_encoding.md R81, R82) -/

theorem test_illformed_op0 : wordWellFormed 0x00000000#32 = false := by decide
theorem test_illformed_opF : wordWellFormed 0xF0000000#32 = false := by decide
theorem test_illformed_opC : decode 0xC0000000#32 = .error (.reservedOp 0xC) := by decide
theorem test_illformed_cfg : wordWellFormed 0x10000001#32 = false := by decide
theorem test_illformed_run : wordWellFormed 0x21000000#32 = false := by decide
theorem test_illformed_tick : wordWellFormed 0x30010000#32 = false := by decide
theorem test_illformed_bpoll : wordWellFormed 0x40000001#32 = false := by decide
theorem test_illformed_ptrig : wordWellFormed 0x58000000#32 = false := by decide
theorem test_illformed_cdone : wordWellFormed 0x68000000#32 = false := by decide
theorem test_illformed_sdone : wordWellFormed 0x70100000#32 = false := by decide
theorem test_illformed_xrd : wordWellFormed 0x8000FF00#32 = false := by decide
theorem test_illformed_xwr : wordWellFormed 0x90800000#32 = false := by decide
theorem test_illformed_bdone : wordWellFormed 0xA0000001#32 = false := by decide
theorem test_illformed_meas : decode 0xB0000002#32 = .error (.reservedBits 0xB) := by decide

/-! ## One step each -/

theorem test_cfg_check_order : resultOf (.cfg .blockDMA 9 2 6) State.reset = .fatal .inputSource := by decide
theorem test_cfg_bad_len_in_polling :
    answers (exec (.cfg .polling 0 0 6) State.reset) (fun t => t.cst == .configured && t.len == 0) = true := by decide
theorem test_run_before_configure :
    answers (exec .run State.reset) (fun t => t.cst == .fatal && t.fcause == 3) = true := by decide
theorem test_run_blockDMA :
    answers (exec .run configured) (fun t => t.fg == .bPoll && t.pbW == .B && t.pbR == .A) = true := by decide
theorem test_tick_overrun :
    tickInterrupt (some 2) 2 (intr true [1])
      = .ok { intr true [1, 2] with ovr := true, trace := [.sreq 2] } := by decide
theorem test_tick_nest_overflow : tickInterrupt (some 2) 3 (intr true [1, 2]) = .fault .nestOverflow := by decide
theorem test_tick_completes_a_buffer :
    answers (exec (.tick 0x0108) (block .bPoll 7 7)) (fun t =>
      t.trace == [.dacOut 0, .capDone .A] && t.mem == [(7, 0x0108)] && t.capW == .B && t.fillIdx == 0 && t.drainIdx == 8)
      = true := by decide
theorem test_tick_swaps :
    answers (exec (.tick 4) (block .bPoll 0 8)) (fun t =>
      t.trace == [.drainSwap .B, .dacOut 0] && t.pbR == .B && t.drainIdx == 1 && t.fillIdx == 1) = true := by decide
theorem test_bpoll_first_finds_nothing : exec .bpoll (block .bPoll 0 0) = .next (block .bPoll 0 0) := by rfl
theorem test_bpoll_grants :
    answers (exec .bpoll { block .bPoll 0 8 with capW := .B }) (fun t =>
      t.blbl == .A && t.fg == .bBusy && t.trace == [.breq .A]) = true := by decide
theorem test_ptrig :
    answers (exec .ptrig { poll .pTrig with src := 1 }) (fun t => t.trace == [.convStart 1] && t.fg == .pConv) = true := by
  decide
theorem test_ptrig_out_of_order : resultOf .ptrig (poll .pConv) = .refuse .outOfOrder := by decide
theorem test_cdone :
    answers (exec (.cdone 0xFFFF) (poll .pConv)) (fun t => t.psample == 0xFFFF && t.trace == [.sreq 0xFFFF]) = true := by
  decide
theorem test_sdone_polling :
    answers (exec (.sdone 0) (poll .pXf)) (fun t => t.trace == [.dacOut 0] && t.fg == .pTrig) = true := by decide
theorem test_sdone_nested :
    answers (exec (.sdone 0x24) (intr true [0x11, 0x12])) (fun t =>
      t.trace == [.dacOut 0x24] && t.istack == [0x11] && !t.guard) = true := by decide
theorem test_xrd_cap : answers (exec (.xrd .cap 3) granted) (fun t => t.rdata == 0x0104) = true := by decide
theorem test_xrd_out_of_range : resultOf (.xrd .cap 8) granted = .fault .bufferIndex := by decide
theorem test_xwr :
    answers (exec (.xwr 3 0x0104) granted) (fun t => t.mem == [(3, 0x0104), (259, 0x0104)]) = true := by decide
theorem test_xwr_zero_unlists :
    answers (exec (.xwr 3 0) { granted with mem := [(259, 7)] }) (fun t => t.mem == []) = true := by decide
theorem test_bdone :
    answers (exec .bdone granted) (fun t => t.capR == .A && t.pbW == .A && t.fg == .bPoll) = true := by decide
theorem test_median_m4 :
    netLatency (fun i => [3, 7, 1, 9, 0, 10, 2, 8, 4, 6, 5].getD i 0) (fun i => [9, 1, 8, 2, 7, 3, 6, 4, 5, 10, 11].getD i 0)
      = 1 := by decide
theorem test_median_wraps_m3 : netLatency (fun _ => 10) (fun _ => 5) = 0xFFFFFFFB := by decide
theorem test_measS_running : resultOf .measS (poll .pTrig) = .refuse .foregroundBusy := by decide
theorem test_measB_unconf : answers (exec .measB State.reset) (fun t => t.fcause == 4) = true := by decide
theorem test_fatal_ignores : exec (.cfg .blockDMA 0 0 1) fatal = .next fatal := by rfl
theorem test_rst_in_fatal :
    answers (step { fatal with refused := true, pending := [.rst] }) (fun t =>
      t.cst == .unconf && t.fcause == 0 && t.refused) = true := by decide
theorem test_illegal_word_in_fatal :
    answers (step (fatal.withFetchWord 32 0xC0000000)) (fun t => t.cst == .fatal && t.refused) = true := by decide
theorem test_host_byte : hostByteIn .big granted 6 = some 0x01 ∧ hostByteIn .little granted 6 = some 0x04 := by decide
theorem test_telemetry : granted.telAct = true ∧ granted.telDrain = 0 ∧ (intr true [1]).telErrAt false = false := by decide
theorem test_pcycle :
    Pseudo.expand 8 (.pcycle 1 2) = [.event .ptrig, .event (.cdone 1), .event (.sdone 2)] := by decide
theorem test_assemble_number : numberBelow 65536 ['0', 'x', 'f', 'F'] = some 255 := by decide

/-! ## Witnesses: each names a state and operands that meet the hypotheses of the statement it is named after -/

/-- NEST_MAX is at least 1, so an empty stack always has room. -/
theorem nestMax_ne_zero : Config.nestMax ≠ some 0 := by
  unfold Config.nestMax
  cases Config.nestMaxPred <;> simp

theorem withinNestMax_zero : withinNestMax 0 := fun _ _ => Nat.zero_le _

theorem witness_ResetSetsEveryRegister :
    ({ fatal with pending := [.rst] } : State).pending = .rst :: [] ∧
    ({ fatal with pending := [.powerOn, .rst] } : State).pending = .powerOn :: [.rst] := ⟨rfl, rfl⟩
theorem witness_StepRunsTheDecodedEvent :
    ((State.reset.withWord 0x20000000#32).pending = .word 0x20000000#32 :: [] ∧ decode 0x20000000#32 = .ok .run) ∧
    ({ granted with pending := [.rst] } : State).pending = .rst :: [] ∧
    ({ granted with pending := [.powerOn] } : State).pending = .powerOn :: [] ∧ granted.nextAgent = none ∧
    (granted.withWord 0xF0000000#32).nextAgent = none ∧
    step (granted.withWord 0xF0000000#32) = .next { granted with refused := true } :=
  ⟨by decide, rfl, rfl, rfl, rfl, rfl⟩
theorem witness_OutcomeDependsOnTheTupleAlone :
    (granted.toBlockState = grantedSeen.toBlockState ∧ granted ≠ grantedSeen ∧ granted.draws = grantedSeen.draws ∧
      ∃ t, exec (.tick 1) granted = .next t) ∧
    ({ block .bBusy 0 0 with len := 6 } : State).bufLen = none ∧
    exec (.xrd .cap 0) { block .bBusy 0 0 with len := 6 } = .fault .lengthUndefined :=
  ⟨⟨rfl, by decide, rfl, _, rfl⟩, rfl, rfl⟩
theorem witness_IllegalWordIsRefusedEverywhere :
    (State.reset.withWord 0x3FFF0000#32).pending = .word 0x3FFF0000#32 :: [] ∧ wordWellFormed 0x3FFF0000#32 = false ∧
    (fatal.withWord 0xCFFFFFFF#32).pending = .word 0xCFFFFFFF#32 :: [] ∧
    (0xCFFFFFFF#32).extractLsb 31 28 ∈ [0x0#4, 0xC#4, 0xD#4, 0xE#4, 0xF#4] := by decide
theorem witness_NoInputChangesNothing : granted.pending = [] := rfl
theorem witness_PlacedWordRunsNext : decodeTableWord 32 0xB0000001 = some .measB := by decide
theorem witness_EncodeInvertsDecode : decode 0x9FFFFFFF#32 ≠ .ok .run ∧ decode 0x907FFFFF#32 = .ok (.xwr 127 0xFFFF) := by
  decide

/-- The granted state meets the invariant. -/
theorem granted_inv : granted.Inv where
  memory := rfl
  unconfigured := by decide
  configured := by decide
  indices := fun _ _ => ⟨8, rfl, by decide, by decide⟩
  runningMode := by decide
  stackBound := withinNestMax_zero
  stackEmpty := by decide
  guardStack := by decide
  causeNone := by decide
  causeSome := by decide
  grantLabel := by decide
  consumerRoles := by decide
  foreground := rfl
  cleared := by decide

/-- The CONFIGURED state meets the invariant. -/
theorem configured_inv : configured.Inv where
  memory := rfl
  unconfigured := by decide
  configured := by decide
  indices := by decide
  runningMode := by decide
  stackBound := withinNestMax_zero
  stackEmpty := by decide
  guardStack := by decide
  causeNone := by decide
  causeSome := by decide
  grantLabel := by decide
  consumerRoles := by decide
  foreground := rfl
  cleared := fun _ _ => rfl

/-- The granted state meets the role invariant. -/
theorem granted_roleInv : granted.RoleInv := fun _ _ =>
  ⟨8, rfl, by decide, .inr ⟨rfl, rfl⟩, rfl, rfl, rfl, fun _ => ⟨rfl, rfl, .inl rfl⟩, fun h => nomatch h⟩

/-- The granted state with a TICK about to be delivered, and what the tick makes of it. -/
def grantedTick : State := { granted with pending := [.word 0x30000001#32] }

/-- The state after that tick. -/
def grantedTicked : State := ((granted.drainPhase 8).capturePhase 8 1)

theorem grantedTick_step : step grantedTick = .next grantedTicked := by rfl

theorem witness_StepKeepsTheInvariant : granted.Inv ∧ step grantedTick = .next grantedTicked :=
  ⟨granted_inv, grantedTick_step⟩
theorem witness_StepKeepsMemoryCanonical : memWf grantedTick.mem = true ∧ step grantedTick = .next grantedTicked :=
  ⟨rfl, grantedTick_step⟩
theorem witness_PremisedStepKeepsTheRoleInvariant :
    grantedTick.Inv ∧ grantedTick.RoleInv ∧ step grantedTick = .next grantedTicked ∧
      TimingPremise grantedTick grantedTicked ∧ grantedTick.cst = .running ∧ grantedTick.mode = .blockDMA ∧
      grantedTick.fg = .bBusy :=
  ⟨⟨granted_inv.1, granted_inv.2, granted_inv.3, granted_inv.4, granted_inv.5, granted_inv.6, granted_inv.7,
    granted_inv.8, granted_inv.9, granted_inv.10, granted_inv.11, granted_inv.12, granted_inv.13, granted_inv.14⟩,
   granted_roleInv, grantedTick_step, fun _ => by decide, rfl, rfl, rfl⟩
/-- The second implication's inner premise: a buffer is granted and no swap is due. -/
theorem witness_PremisedStepKeepsTheRoleInvariant_draining :
    ({ granted with fillIdx := 1, drainIdx := 1, pbR := .B } : State).RoleInv ∧
    ({ granted with fillIdx := 1, drainIdx := 1, pbR := .B } : State).bufLen ≠ some 1 :=
  ⟨fun _ _ => ⟨8, rfl, by decide, .inl rfl, rfl, rfl, rfl, fun _ => ⟨rfl, rfl, .inr rfl⟩, fun h => nomatch h⟩, by decide⟩
theorem witness_PremisedRunIsRaceFree :
    ∃ s, configured.Inv ∧ configured.cst = .configured ∧ configured.mode = .blockDMA ∧ exec .run configured = .next s ∧
      PremisedRun s s ∧ s.cst = .running ∧ s.mode = .blockDMA :=
  ⟨_, configured_inv, rfl, rfl, rfl, .start, rfl, rfl⟩
theorem witness_StepKeepsTheOverrunEvidence :
    (intr true [5]).OverrunEvidence ∧ step ((intr true [5]).withWord 0x70000001#32) =
      .next { intr false [] with trace := [.dacOut 1] } :=
  ⟨fun _ _ _ => .inr ⟨5, rfl, rfl⟩, rfl⟩
/-- OVR set with no reset due, and a TICK that runs with an invocation outstanding. -/
theorem witness_StepKeepsTheOverrunEvidence_set :
    (({ intr true [5, 6] with ovr := true } : State).cst = .running ∧
      (∃ t, step { intr true [5, 6] with ovr := true } = .next t) ∧
      (intr true [5, 6]).pending.head? ≠ some .rst ∧ (intr true [5, 6]).pending.head? ≠ some .powerOn) ∧
    (({ intr true [5, 6] with ovr := true } : State).OverrunEvidence ∧ (intr true [5, 6]).istack ≠ []) ∧
    tickRule none 7 { intr true [5, 6] with ovr := true }
      = .ok { intr true [5, 6, 7] with ovr := true, trace := [.sreq 7] } :=
  ⟨⟨rfl, ⟨_, rfl⟩, by decide, by decide⟩, ⟨fun _ _ h => absurd h (by decide), by decide⟩, rfl⟩
/-- A run of Interrupt mode with a TICK, no fault and no overrun. -/
theorem witness_StepKeepsTheOverrunEvidence_run :
    ({ configured with mode := .interrupt } : State).cst = .configured ∧
    exec .run { configured with mode := .interrupt } = .next { intr false [] with len := 1 } ∧
    execAll [] { intr false [] with len := 1 } = .next { intr false [] with len := 1 } ∧
    execAll [.tick 5] { intr false [] with len := 1 }
      = .next { intr true [5] with len := 1, trace := [.sreq 5] } ∧
    (intr true [5]).faulted = false ∧ (intr true [5]).ovr = false := by
  refine ⟨rfl, rfl, rfl, ?_, rfl, rfl⟩
  simp [execAll, exec, execTick, tickRule, whenRunning, tickInterrupt, settle, intr, State.reset, nestMax_ne_zero,
    State.testAndSetGuard, State.enterInvocation, State.emit]

theorem witness_CfgFollowsItsRule :
    (State.reset.cst = .unconf ∧ (1#2).toNat ≤ 1 ∧ (8#4).toNat ≤ 8 ∧ 1 ≤ (5#3).toNat ∧ (5#3).toNat ≤ 5) ∧
    fatal.cst = .fatal ∧ configured.cst = .configured ∧ (poll .pTrig).cst = .running ∧ 2 ≤ (2#2).toNat ∧
    ((6#3).toNat = 0 ∨ 6 ≤ (6#3).toNat) ∧ ((0#3).toNat = 0 ∨ 6 ≤ (0#3).toNat) ∧ 9 ≤ (9#4).toNat := by decide
theorem witness_RunFollowsItsRule :
    (configured.cst = .configured ∧ configured.mode ≠ .none) ∧ fatal.cst = .fatal ∧ granted.cst = .running ∧
    (State.reset.cst = .unconf ∧ State.reset.mode = .none) ∧
    ({ configured with mode := .polling } : State).mode = .polling ∧
    ({ configured with mode := .interrupt } : State).mode = .interrupt := by decide
theorem witness_TickOutsideBlockDmaFollowsItsRule :
    ((intr false []).cst = .running ∧ (intr false []).mode = .interrupt ∧
      Config.nestMax ≠ some (intr false []).istack.length) ∧
    (some 2 = some (intr true [1, 2]).istack.length ∧ (intr true [1, 2]).mode = .interrupt) ∧
    (poll .pTrig).mode = .polling ∧ State.reset.cst = .unconf ∧ configured.cst = .configured ∧ fatal.cst = .fatal :=
  ⟨⟨rfl, rfl, nestMax_ne_zero⟩, ⟨rfl, rfl⟩, rfl, rfl, rfl, rfl⟩
theorem witness_TickInBlockDmaFollowsItsRule :
    (granted.cst = .running ∧ granted.mode = .blockDMA ∧ granted.bufLen = some 8 ∧ granted.fillIdx.toNat < 8 ∧
      granted.drainIdx.toNat = 8 ∧ memWf granted.mem = true) ∧
    ((block .bPoll 7 7).bufLen = some 8 ∧ (block .bPoll 7 7).fillIdx.toNat + 1 = 8 ∧
      (block .bPoll 7 7).drainIdx.toNat ≠ 8 ∧ (block .bPoll 7 7).drainIdx.toNat ≤ 8) := by decide
theorem witness_ExcludedStatesStopByName :
    ((block .bPoll 8 0).bufLen = some 8 ∧ 8 ≤ (block .bPoll 8 0).fillIdx.toNat) ∧
    8 < (block .bPoll 0 9).drainIdx.toNat ∧ ({ block .bBusy 0 0 with len := 6 } : State).bufLen = none ∧
    ({ block .bBusy 0 0 with len := 0 } : State).bufLen = none ∧ ({ block .bBusy 0 0 with len := 6 } : State).fg = .bBusy ∧
    ({ poll .none with mode := .none } : State).cst = .running := by decide
theorem witness_SdoneFollowsItsRule :
    (poll .pXf).fg = .pXf ∧ (poll .pConv).fg ≠ .pXf ∧ (intr true [1, 2]).istack = [1] ++ [2] ∧
    (intr false []).istack = [] ∧ granted.mode = .blockDMA ∧ State.reset.cst = .unconf ∧ fatal.cst = .fatal := by decide
theorem witness_PtrigFollowsItsRule :
    ((poll .pTrig).cst = .running ∧ (poll .pTrig).mode = .polling ∧ (poll .pTrig).fg = .pTrig) ∧ fatal.cst = .fatal ∧
    State.reset.cst = .unconf ∧ granted.mode ≠ .polling ∧ (poll .pXf).fg ≠ .pTrig := by decide
theorem witness_CdoneFollowsItsRule :
    ((poll .pConv).cst = .running ∧ (poll .pConv).mode = .polling ∧ (poll .pConv).fg = .pConv) ∧ fatal.cst = .fatal ∧
    configured.cst = .configured ∧ (intr false []).mode ≠ .polling ∧ (poll .pTrig).fg ≠ .pConv := by decide
theorem witness_PollingRunsRepeatOneRound :
    (poll .pTrig).cst = .running ∧ (poll .pTrig).mode = .polling ∧ (poll .pTrig).fg = .pTrig ∧
    ∃ t, execAll [.ptrig, .cdone 3, .sdone 4, .ptrig] (poll .pTrig) = .next t := ⟨rfl, rfl, rfl, _, rfl⟩
/-- Whatever NEST_MAX is, an outer stack of length 1 or of length 2 has room above it. -/
theorem witness_NestedReturnHidesTheNextOverrun :
    ∃ (s : State) (outer : List Sample) (x : Sample), s.cst = .running ∧ s.mode = .interrupt ∧ s.istack = outer ++ [x] ∧
      outer ≠ [] ∧ Config.nestMax ≠ some outer.length := by
  by_cases h : Config.nestMax = some 1
  · exact ⟨intr true [1, 2, 3], [1, 2], 3, rfl, rfl, rfl, by decide, by rw [h]; decide⟩
  · exact ⟨intr true [1, 2], [1], 2, rfl, rfl, rfl, by decide, h⟩
theorem witness_BpollFollowsItsRule :
    (({ block .bPoll 0 8 with capW := .B } : State).capW = ({ block .bPoll 0 8 with capW := .B } : State).capR) ∧
    ((block .bPoll 0 0).fg = .bPoll ∧ (block .bPoll 0 0).capW ≠ (block .bPoll 0 0).capR) ∧ fatal.cst = .fatal ∧
    configured.cst = .configured ∧ (poll .pTrig).mode ≠ .blockDMA ∧ granted.fg ≠ .bPoll := by decide
theorem witness_XrdFollowsItsRule :
    (granted.cst = .running ∧ granted.mode = .blockDMA ∧ granted.fg = .bBusy ∧ granted.bufLen = some 8 ∧
      (7#7).toNat < 8 ∧ 8 ≤ (8#7).toNat) ∧
    ({ granted with len := 0 } : State).bufLen = none ∧ fatal.cst = .fatal ∧ State.reset.cst = .unconf ∧
    (intr false []).mode ≠ .blockDMA ∧ (block .bPoll 0 0).fg ≠ .bBusy := by decide
theorem witness_XwrFollowsItsRule :
    (granted.cst = .running ∧ granted.mode = .blockDMA ∧ granted.fg = .bBusy ∧ granted.bufLen = some 8 ∧
      (7#7).toNat < 8 ∧ 8 ≤ (8#7).toNat ∧ memWf granted.mem = true) ∧
    ({ granted with len := 7 } : State).bufLen = none ∧ fatal.cst = .fatal ∧ State.reset.cst = .unconf ∧
    (poll .pTrig).mode ≠ .blockDMA ∧ (block .bPoll 0 0).fg ≠ .bBusy := by decide
theorem witness_BdoneFollowsItsRule :
    (granted.cst = .running ∧ granted.mode = .blockDMA ∧ granted.fg = .bBusy) ∧ fatal.cst = .fatal ∧
    configured.cst = .configured ∧ (intr false []).mode ≠ .blockDMA ∧ (block .bPoll 0 0).fg ≠ .bBusy := by decide
theorem witness_TickPhasesCommute : memWf granted.mem = true := rfl
theorem witness_TickIsBlindToTheConsumer :
    (∃ t, exec (.tick 1) granted = .next t) ∧ granted.cst = .running ∧ granted.mode = .blockDMA ∧
    (∃ t, exec (.tick 1) (block .bPoll 3 3) = .next t) ∧
    (block .bPoll 3 3).bufLen ≠ some (block .bPoll 3 3).drainIdx.toNat :=
  ⟨⟨_, rfl⟩, rfl, rfl, ⟨_, rfl⟩, by decide⟩
/-- Each of the four roles does change, in the event that the statement names. -/
theorem witness_EachRoleHasOneWriter :
    (∃ t, exec (.tick 1) (block .bPoll 7 7) = .next t ∧ t.capW ≠ (block .bPoll 7 7).capW) ∧
    (∃ t, exec (.tick 1) granted = .next t ∧ t.pbR ≠ granted.pbR) ∧
    (∃ t, exec .bdone granted = .next t ∧ t.capR ≠ granted.capR ∧ t.pbW ≠ granted.pbW) :=
  ⟨⟨_, rfl, by decide⟩, ⟨_, rfl, by decide⟩, ⟨_, rfl, by decide, by decide⟩⟩
theorem witness_OnePeriodCapturesAndDrains :
    granted.cst = .running ∧ granted.mode = .blockDMA ∧ granted.bufLen = some 8 ∧ granted.fillIdx = 0 ∧
    granted.drainIdx.toNat = 8 ∧ memWf granted.mem = true ∧ [1, 2, 3, 4, 5, 6, 7, (8 : Sample)].length = 8 := by decide
/-- The first period of a run. -/
theorem witness_OnePeriodCapturesAndDrains_first :
    (block .bPoll 0 0).cst = .running ∧ (block .bPoll 0 0).mode = .blockDMA ∧ (block .bPoll 0 0).bufLen = some 8 ∧
    (block .bPoll 0 0).fillIdx = 0 ∧ (block .bPoll 0 0).drainIdx = 0 ∧ memWf (block .bPoll 0 0).mem = true := by decide
theorem witness_ReadinessIsTheParityOfCompletions :
    (block .bPoll 7 7).capW ≠ (block .bPoll 7 7).capR ∧ (block .bPoll 7 7).fg = .bPoll ∧
    ∃ t, execAll [.tick 1] (block .bPoll 7 7) = .next t ∧ t.fg = .bPoll ∧ t.bufferReady = true :=
  ⟨by decide, rfl, _, rfl, rfl, rfl⟩
theorem witness_LabelsAlternateFromA :
    configured.cst = .configured ∧ configured.mode = .blockDMA ∧
    ∃ s, exec .run configured = .next s ∧ ∃ t, execAll [.tick 1, .bpoll] s = .next t :=
  ⟨rfl, rfl, _, rfl, _, rfl⟩
theorem witness_IdentityTransformCopiesTheBuffer :
    ∃ s : State, s.cst = .running ∧ s.mode = .blockDMA ∧ s.fg = .bPoll ∧ s.capW = s.capR ∧ s.bufLen = some 8 ∧
      memWf s.mem = true :=
  ⟨{ granted with fg := .bPoll }, by decide⟩
theorem witness_IdentityTransformDelaysByOnePeriod :
    (block .bPoll 0 8).cst = .running ∧ (block .bPoll 0 8).mode = .blockDMA ∧ (block .bPoll 0 8).fg = .bPoll ∧
    (block .bPoll 0 8).capW ≠ (block .bPoll 0 8).capR ∧ (block .bPoll 0 8).bufLen = some 8 ∧
    (block .bPoll 0 8).fillIdx = 0 ∧ (block .bPoll 0 8).drainIdx.toNat = 8 ∧ memWf (block .bPoll 0 8).mem = true ∧
    [1, 2, 3, 4, 5, 6, 7, (8 : Sample)].length = 8 := by decide
theorem witness_InvocationsThatReturnInTimeAnswerEachTick :
    (intr false []).cst = .running ∧ (intr false []).mode = .interrupt ∧ (intr false []).istack = [] ∧
    (intr false []).guard = false := by decide
theorem witness_MeasFollowsItsRule :
    State.reset.cst = .unconf ∧ configured.cst = .configured ∧ configured.len ≠ 0 ∧ State.reset.len = 0 ∧
    fatal.cst = .fatal ∧ granted.cst = .running := by decide
theorem witness_MedianIsTheMiddleOfTheSort :
    (List.replicate 11 (7 : Cycles)).Perm (List.ofFn fun _ : Fin 11 => 7) ∧
    (List.replicate 11 (7 : Cycles)).Pairwise (· ≤ ·) :=
  ⟨by decide, by decide⟩
theorem witness_SixEqualTrialsDecideTheMedian :
    6 ≤ (List.ofFn fun i : Fin 11 => if i < 6 then (100 : Cycles) else 5000).count 100 ∧
    6 ≤ (List.ofFn fun _ : Fin 11 => (10 : Cycles)).count 10 := by decide
theorem witness_ProfilerTouchesOnlyItsResult :
    (∃ t, exec .measS configured = .next t) ∧ (∃ t, exec .measB configured = .next t) := ⟨⟨_, rfl⟩, _, rfl⟩
theorem witness_FatalEntryIsPrecise : resultOf .run State.reset = .fatal .modeNone := rfl
theorem witness_FatalAbsorbsEveryEvent :
    fatal.cst = .fatal ∧ decode 0xC0000000#32 = .error (.reservedOp 0xC) ∧
    ∃ t, step { fatal with pending := [.rst] } = .next t ∧ t.cst ≠ .fatal := ⟨rfl, by decide, _, rfl, by decide⟩
theorem witness_FatalIsEnteredOnlyBeforeRunning :
    State.reset.cst ≠ .fatal ∧ ∃ t, exec .measB State.reset = .next t ∧ t.cst = .fatal := ⟨by decide, _, rfl, rfl⟩
theorem witness_RunningEndsOnlyByReset :
    granted.cst = .running ∧ (∃ t, exec .bdone granted = .next t) ∧
    ∃ t, step { granted with pending := [.rst] } = .next t ∧ t.cst ≠ .running := ⟨rfl, ⟨_, rfl⟩, _, rfl, by decide⟩
theorem witness_ConfigurationIsWrittenOnce :
    ∃ t, step (State.reset.withWord 0x18020000#32) = .next t ∧ t.len ≠ State.reset.len := ⟨_, rfl, by decide⟩
theorem witness_MarksAreSetAndNeverCleared :
    resultOf (.xrd .cap 8) granted = .fault .bufferIndex ∧ resultOf .run granted = .refuse .alreadyRunning ∧
    (∃ t, step { fatal with refused := true, faulted := true, pending := [.rst] } = .next t) ∧
    ({ fatal with pending := [.rst] } : State).pending.head? ≠ some .powerOn ∧
    ({ fatal with pending := [.rst] } : State).pending = .rst :: [] ∧
    ({ fatal with pending := [.powerOn] } : State).pending = .powerOn :: [] ∧
    (∃ t, step { granted with pending := [.powerOn] } = .next t ∧ t.cst ≠ granted.cst) :=
  ⟨rfl, rfl, ⟨_, rfl⟩, by decide, rfl, rfl, _, rfl, by decide⟩
theorem witness_OutcomesAgreeWithTheAdmissionTable :
    fatal.column = some .fatal ∧ admission .bdone .fatal fatal = .ignored ∧
    granted.column = some .blockDMA ∧ admission .bdone .blockDMA granted = .applies ∧
    admission (.sdone 0) .blockDMA granted = .refuse .wrongMode := by decide
theorem witness_EachModeTouchesOnlyItsState :
    (∃ t, exec .ptrig (poll .pTrig) = .next t) ∧ (∃ t, exec (.sdone 1) (intr true [1]) = .next t) ∧
    (∃ t, exec (.tick 1) granted = .next t) := ⟨⟨_, rfl⟩, ⟨_, rfl⟩, _, rfl⟩
/-- Each of the three storing events does change a halfword. -/
theorem witness_OnlyThreeEventsStore :
    memWf granted.mem = true ∧ (∃ t, exec (.xwr 7 5) granted = .next t ∧ t.memRead 263 ≠ granted.memRead 263) ∧
    (∃ t, exec (.tick 5) granted = .next t ∧ t.memRead 128 ≠ granted.memRead 128) ∧
    ∃ t, exec (.cfg .polling 0 0 0) { State.reset with mem := [(1, 1)] } = .next t ∧ t.memRead 1 ≠ 1 :=
  ⟨rfl, ⟨_, rfl, by decide⟩, ⟨_, rfl, by decide⟩, _, rfl, by decide⟩
theorem witness_ResponseRegistersHaveTheirWriters :
    (∃ t, step (granted.withWord 0x80000003#32) = .next t ∧ t.rdata ≠ granted.rdata) ∧
    (∃ t, step { configured with mres := 9, pending := [.rst] } = .next t ∧ t.mres ≠ 9) :=
  ⟨⟨_, rfl, by decide⟩, _, rfl, by decide⟩
theorem witness_MarksAreInvisible : ∃ t, exec (.tick 1) granted = .next t := ⟨_, rfl⟩
theorem witness_ClearLoopEmptiesTheMemory : memWf granted.mem = true := rfl
theorem witness_BootReachesTheRunStart :
    (State.reset.cst = .unconf ∧ Mode.blockDMA ≠ .none ∧ (1#2).toNat ≤ 1 ∧ (8#4).toNat ≤ 8 ∧ 1 ≤ (5#3).toNat ∧
      (5#3).toNat ≤ 5 ∧ ∀ i ∈ [Instr.measB, .measS], i = .measS ∨ (i = .measB ∧ 1 ≤ (5#3).toNat ∧ (5#3).toNat ≤ 5)) ∧
    configured.Inv ∧ configured.cst ≠ .running ∧ ∃ t, exec .run configured = .next t ∧ t.cst = .running :=
  ⟨by decide, configured_inv, by decide, _, rfl, rfl⟩
theorem witness_TelemetryFollowsItsRule :
    fatal.cst = .fatal ∧ granted.cst ≠ .fatal ∧ granted.cst = .running ∧ granted.mode = .blockDMA ∧
    ¬((poll .pXf).cst = .running ∧ (poll .pXf).mode = .blockDMA) := by decide
theorem witness_RatePeriodsStrictlyIncrease : 7 < 8 ∧ 8 ≤ 8 := by decide

end Sys2Proof.Tests
end

section
/-! The open parameter RATE_PERIOD (00_scope.md R2, 70_reset_and_hazards.md R311), for every choice of its gaps. -/
namespace Sys2Proof.Config

theorem ratePeriod_pos (i : Nat) : 0 < ratePeriod i := by
  cases i with
  | zero => exact Nat.succ_pos _
  | succ n => exact Nat.succ_pos _

theorem ratePeriod_lt_succ (n : Nat) : ratePeriod n < ratePeriod (n + 1) :=
  calc ratePeriod n ≤ ratePeriod n + ratePeriodGap (n + 1) := Nat.le_add_right _ _
    _ < ratePeriod (n + 1) := Nat.lt_succ_self _

theorem ratePeriod_strictMono : StrictMono ratePeriod := strictMono_nat_of_lt_succ ratePeriod_lt_succ

/-- Settles O60: each period is positive, and rising from one index to the next makes the table strictly monotone. -/
theorem ratePeriodsStrictlyIncrease : Obligations.RatePeriodsStrictlyIncrease :=
  fun i _ hij _ => ⟨ratePeriod_pos i, ratePeriod_strictMono hij⟩

end Sys2Proof.Config
end

section
/-! The step by its next pending input, and the agent whose step it is (00_scope.md R5, 30_encoding.md R83). -/
namespace Sys2Proof.Machine

variable {s t : State}

theorem State.takeInput_of_cons {inp : Input} {rest : List Input} (hp : s.pending = inp :: rest) :
    s.takeInput = { s with pending := rest } := by
  simp [State.takeInput, hp]

theorem State.takeInput_of_nil (hp : s.pending = []) : s.takeInput = s := by
  cases s
  simp_all [State.takeInput]

theorem step_of_cons {inp : Input} {rest : List Input} (hp : s.pending = inp :: rest) :
    step s = deliver inp { s with pending := rest } := by
  simp [step, portStep, hp, State.takeInput_of_cons hp]

theorem deliver_word_of_decode_ok {w : EventWord} {i : Instr} (hd : decode w = .ok i) (s : State) :
    deliver (.word w) s = exec i s := by
  simp [deliver, deliverWord, hd]

theorem State.nextAgent_of_decode_ok {w : EventWord} {rest : List Input} {i : Instr}
    (hp : s.pending = .word w :: rest) (hd : decode w = .ok i) : s.nextAgent = some (agentOf i) := by
  simp [State.nextAgent_cons s hp, hd, Except.toOption]

/-- A step that is no agent's takes the next input, if there is one, and otherwise at most sets the refusal mark. -/
theorem step_frame_of_nextAgent_eq_none (ha : s.nextAgent = none) (h : step s = .next t) :
    t = { s.takeInput with refused := t.refused } := by
  obtain ⟨hp, rfl⟩ | ⟨rest, hp, -⟩ | ⟨rest, hp, -⟩ | ⟨w, rest, hp, ⟨i, hd, -⟩ | ⟨e, -, rfl⟩⟩ := step_next h
  · rw [State.takeInput_of_nil hp]
  · simp [State.nextAgent_cons s hp] at ha
  · simp [State.nextAgent_cons s hp] at ha
  · simp [State.nextAgent_of_decode_ok hp hd] at ha
  · rfl

/-- Settles O2: delivery of a decoded word is `exec`, each input fixes its agent, and what no agent delivers is a wait
or a refused word. -/
theorem stepRunsTheDecodedEvent : Obligations.StepRunsTheDecodedEvent := by
  refine ⟨fun s w rest i hp hd => ⟨?_, State.nextAgent_of_decode_ok hp hd⟩, fun s rest hp => ?_,
    fun s t ha h => step_frame_of_nextAgent_eq_none ha h⟩
  · rw [step_of_cons hp, deliver_word_of_decode_ok hd]
  · obtain hp | hp := hp
    · rw [State.nextAgent_cons s hp, agentOfInput_rst]
    · rw [State.nextAgent_cons s hp, agentOfInput_powerOn]

end Sys2Proof.Machine
end

section
/-! When a rule raises Fatal, and what an event leaves alone (60_exceptions.md R250 to R253, R260, R261). -/
namespace Sys2Proof.Machine

variable {s t : State} {c : FatalCause}

theorem whenRunning_ne_fatal {body : Result} (h : body ≠ .fatal c) : whenRunning s body ≠ .fatal c := by
  obtain ⟨-, e⟩ | ⟨-, e⟩ | ⟨-, e⟩ := whenRunning_cases s body <;> simp [e, h]

theorem inMode_ne_fatal {m : Mode} {body : Result} (h : body ≠ .fatal c) : inMode m s body ≠ .fatal c := by
  refine whenRunning_ne_fatal ?_
  split_ifs
  · exact h
  · simp

theorem engineAccess_ne_fatal {idx : BitVec 7} {body : Result} (h : body ≠ .fatal c) :
    engineAccess s idx body ≠ .fatal c := by
  obtain ⟨-, -, -, -, e⟩ | e | e | e | ⟨q, e⟩ := engineAccess_cases s idx body <;> simp [e, h]

theorem whenIdle_fatal {body : Result} (h : whenIdle s body = .fatal c) :
    s.cst = .unconf ∨ s.cst = .configured := by
  unfold whenIdle at h
  cases hc : s.cst <;> simp_all

theorem tickRule_ne_fatal {limit : Option Nat} {v : Sample} : tickRule limit v s ≠ .fatal c := by
  refine whenRunning_ne_fatal ?_
  cases s.mode with
  | polling => simp
  | interrupt => simp only [tickInterrupt]; split_ifs <;> simp
  | blockDMA => obtain ⟨n, -, -, -, e⟩ | e | e := tickBlock_cases v s <;> simp [e]
  | none => simp

theorem sdoneRule_ne_fatal {y : Sample} : sdoneRule y s ≠ .fatal c := by
  refine whenRunning_ne_fatal ?_
  cases s.mode with
  | polling => simp only [sdonePolling]; split_ifs <;> simp
  | interrupt => simp only [sdoneInterrupt]; split_ifs <;> simp
  | blockDMA => simp
  | none => simp

/-- Fatal is raised only before the run (60_exceptions.md R253): by CFG, RUN and MEAS_B. -/
theorem resultOf_fatal {i : Instr} (h : resultOf i s = .fatal c) : s.cst = .unconf ∨ s.cst = .configured := by
  cases i with
  | cfg m r q l =>
    simp only [resultOf, cfgRule] at h
    split_ifs at h with h1 h2
    all_goals exact .inl (not_not.mp h2)
  | run =>
    simp only [resultOf, runRule] at h
    split_ifs at h with h1 h2
    revert h1 h2
    cases s.cst <;> simp
  | tick v => exact absurd h tickRule_ne_fatal
  | bpoll => exact absurd h (inMode_ne_fatal (by split_ifs <;> simp))
  | ptrig => exact absurd h (inMode_ne_fatal (by split_ifs <;> simp))
  | cdone x => exact absurd h (inMode_ne_fatal (by split_ifs <;> simp))
  | sdone y => exact absurd h sdoneRule_ne_fatal
  | xrd sel idx => exact absurd h (engineAccess_ne_fatal (by simp))
  | xwr idx v => exact absurd h (engineAccess_ne_fatal (by simp))
  | bdone => exact absurd h (inMode_ne_fatal (by split_ifs <;> simp))
  | measS => exact whenIdle_fatal h
  | measB => exact whenIdle_fatal h

/-- Where the rule of an event answers no state of its own, all but CST, FCAUSE and the two marks stays. -/
theorem exec_next {i : Instr} (h : exec i s = .next t) :
    resultOf i s = .ok t ∨
      t = { s with cst := t.cst, fcause := t.fcause, faulted := t.faulted, refused := t.refused } := by
  rw [exec_eq_settle] at h
  obtain e | ⟨-, rfl⟩ | ⟨c, -, rfl⟩ | ⟨q, -, rfl⟩ | ⟨q, -, rfl⟩ := settle_next h
  · exact .inl e
  all_goals exact .inr rfl

/-- A step takes RST or power-on, runs the event of its word, or waits or refuses a word that spells none. -/
theorem step_next_input (h : step s = .next t) :
    s.pending.head? = some .rst ∨ s.pending.head? = some .powerOn ∨
      (∃ w i, s.pending.head? = some (.word w) ∧ decode w = .ok i ∧ exec i s.takeInput = .next t) ∨
      t = { s.takeInput with refused := t.refused } := by
  obtain ⟨hp, rfl⟩ | ⟨rest, hp, -⟩ | ⟨rest, hp, -⟩ | ⟨w, rest, hp, ⟨i, hd, he⟩ | ⟨e, -, rfl⟩⟩ := step_next h
  · exact .inr (.inr (.inr (by rw [State.takeInput_of_nil hp])))
  · exact .inl (by simp [hp])
  · exact .inr (.inl (by simp [hp]))
  · exact .inr (.inr (.inl ⟨w, i, by simp [hp], hd, he⟩))
  · exact .inr (.inr (.inr rfl))

/-- What the two phases of a tick leave alone (44_block_producer.md R170 to R175, R179). -/
theorem State.tickPhases_frame (s : State) (n : Nat) (v : Sample) :
    let t := (s.drainPhase n).capturePhase n v
    t = { s with
      mem := t.mem, capW := t.capW, pbR := t.pbR, fillIdx := t.fillIdx, drainIdx := t.drainIdx, capRace := t.capRace,
      pbRace := t.pbRace, trace := t.trace } := by
  simp only [State.capturePhase_eq, State.drainPhase_eq]

/-- Counting up an index below a buffer length does not wrap. -/
theorem toNat_succ_of_lt {i : BitVec 8} {n : Nat} (hi : i.toNat < n) (hn : n ≤ 128) : (i + 1).toNat = i.toNat + 1 := by
  have : (1 : BitVec 8).toNat = 1 := rfl
  rw [BitVec.toNat_add]
  omega

theorem decodeN_le {l : BitVec 3} {n : Nat} (h : decodeN l = some n) : 8 ≤ n ∧ n ≤ 128 := by
  obtain ⟨-, hn⟩ := decodeN_some h
  omega

/-- The phases keep FILL_IDX below N. -/
theorem State.tickPhases_fillIdx_lt {n : Nat} (hn : s.bufLen = some n) (hf : s.fillIdx.toNat < n) (v : Sample) :
    ((s.drainPhase n).capturePhase n v).fillIdx.toNat < n := by
  have hn' := decodeN_le hn
  have hs := toNat_succ_of_lt hf hn'.2
  simp only [State.capturePhase_eq, State.drainPhase_eq]
  split_ifs with h
  · simp only [BitVec.ofNat_eq_ofNat, BitVec.toNat_ofNat]; omega
  · omega

/-- The phases keep DRAIN_IDX within N. -/
theorem State.tickPhases_drainIdx_le {n : Nat} (hn : s.bufLen = some n) (hd : s.drainIdx.toNat ≤ n) (v : Sample) :
    ((s.drainPhase n).capturePhase n v).drainIdx.toNat ≤ n := by
  have hn' := decodeN_le hn
  simp only [State.capturePhase_eq, State.drainPhase_eq]
  split_ifs with h
  · simp; omega
  · rw [toNat_succ_of_lt (lt_of_le_of_ne hd h) hn'.2]
    omega

end Sys2Proof.Machine
end

section
/-! Each update keeps the invariant (10_state.md R44, R26, R292); each lemma names the items it touches. -/
namespace Sys2Proof.Machine

variable {s t : State}

theorem causeCode_range (c : FatalCause) : 1 ≤ (causeCode c).toNat ∧ (causeCode c).toNat ≤ 5 := by
  cases c <;> decide

theorem validLen_or_zero_le (l : BitVec 3) : (if validLen l then l else 0).toNat ≤ 5 := by
  decide +revert

theorem exists_bufLen_of_validLen (h : validLen s.len = true) : ∃ n, s.bufLen = some n ∧ 0 < n := by
  obtain ⟨n, hn⟩ := Option.isSome_iff_exists.mp ((decodeN_isSome s.len).trans h)
  exact ⟨n, hn, by have := decodeN_le hn; omega⟩

theorem State.Inv.fg_eq_none (h : s.Inv) (hr : s.cst ≠ .running) : s.fg = .none := by
  have hf := h.foreground
  revert hf hr
  unfold State.foregroundAgrees
  cases s.cst <;> simp

theorem State.Inv.istack_eq_nil (h : s.Inv) (hr : ¬(s.cst = .running ∧ s.mode = .interrupt)) : s.istack = [] :=
  not_not.mp fun hs => hr (h.stackEmpty hs)

/-- No item of the invariant speaks of these registers and marks, nor of the model's own three fields. -/
theorem State.Inv.frame (h : s.Inv)
    (e : t = { s with
      capW := t.capW, pbR := t.pbR, psample := t.psample, ovr := t.ovr, rdata := t.rdata, mres := t.mres,
      faulted := t.faulted, refused := t.refused, capRace := t.capRace, pbRace := t.pbRace,
      pending := t.pending, trace := t.trace, draws := t.draws }) : t.Inv := by
  rw [e]
  exact { h with }

theorem State.reset_inv : State.reset.Inv where
  memory := rfl
  unconfigured := fun _ => rfl
  configured := by decide
  indices := nofun
  runningMode := nofun
  stackBound := fun _ _ => Nat.zero_le _
  stackEmpty := fun hn => absurd rfl hn
  guardStack := nofun
  causeNone := fun _ => rfl
  causeSome := nofun
  grantLabel := nofun
  consumerRoles := nofun
  foreground := rfl
  cleared := fun _ _ => rfl

theorem State.rst_inv (s : State) : s.rst.Inv := { State.reset_inv with }

theorem State.powerOn_inv (s : State) : s.powerOn.Inv := { State.reset_inv with }

theorem State.Inv.raiseFatal (h : s.Inv) (hc : s.cst = .unconf ∨ s.cst = .configured) (c : FatalCause) :
    (s.raiseFatal c).Inv :=
  have hr : s.cst ≠ .running := by obtain e | e := hc <;> simp [e]
  { h with
    unconfigured := nofun
    configured := by simp
    indices := nofun
    runningMode := nofun
    stackEmpty := fun hn => absurd (h.istack_eq_nil fun hi => hr hi.1) hn
    causeNone := fun hn => absurd rfl hn
    causeSome := fun _ => causeCode_range c
    consumerRoles := nofun
    foreground := by simp [State.foregroundAgrees, h.fg_eq_none hr]
    cleared := by simp }

theorem State.Inv.configure (h : s.Inv) (hc : s.cst = .unconf) {m : Mode} {r : BitVec 4} {c : BitVec 2} {l : BitVec 3}
    (hsrc : validSrc c = true) (hlen : m = .blockDMA → validLen l = true) (hrate : validRate r = true) :
    (s.configure m r c l).Inv :=
  have hr : s.cst ≠ .running := by simp [hc]
  { h with
    memory := rfl
    unconfigured := nofun
    configured := fun _ => ⟨hsrc, hrate, validLen_or_zero_le l, fun hm => by simp [hlen hm]⟩
    indices := nofun
    runningMode := nofun
    stackEmpty := fun hn => absurd (h.istack_eq_nil fun hi => hr hi.1) hn
    causeNone := fun _ => h.causeNone (by simp [hc])
    causeSome := nofun
    consumerRoles := nofun
    foreground := by simp [State.foregroundAgrees, h.fg_eq_none hr]
    cleared := fun _ _ => rfl }

/-- The run-start state (41_control.md R103, R104). -/
theorem State.Inv.runStart (h : s.Inv) (hc : s.cst = .unconf ∨ s.cst = .configured) (hm : s.mode ≠ .none) :
    ({ s.runInit with cst := .running, fg := startForeground s.mode } : State).Inv :=
  have hconf : s.cst = .configured := hc.resolve_left fun hu => hm (h.unconfigured hu)
  have hcfg := h.configured (.inl hconf)
  have ⟨_, _, _, hlen⟩ := hcfg
  { h with
    unconfigured := nofun
    configured := fun _ => hcfg
    indices := fun _ hb =>
      have ⟨n, hn, hpos⟩ := exists_bufLen_of_validLen (hlen hb)
      ⟨n, hn, hpos, Nat.zero_le n⟩
    runningMode := fun _ => hm
    stackBound := fun _ _ => Nat.zero_le _
    stackEmpty := fun hn => absurd rfl hn
    guardStack := nofun
    causeNone := fun _ => h.causeNone (by simp [hconf])
    causeSome := nofun
    grantLabel := fun _ => rfl
    consumerRoles := fun _ _ => rfl
    foreground := by cases hm' : s.mode <;> simp_all [State.foregroundAgrees, startForeground]
    cleared := by simp }

theorem State.Inv.emit (h : s.Inv) (e : OutEvent) : (s.emit e).Inv := { h with }

theorem State.Inv.measure (h : s.Inv) (oh cb : Trials) : (s.measure oh cb).Inv :=
  h.frame (by simp only [State.measure])

/-- A step of the Polling loop: FG moves to one of that loop's values. -/
theorem State.Inv.setFg_polling (h : s.Inv) (hc : s.cst = .running) (hm : s.mode = .polling) {f : Foreground}
    (hf : f = .pTrig ∨ f = .pConv ∨ f = .pXf) : (s.setFg f).Inv :=
  { h with
    grantLabel := fun hb => by obtain rfl | rfl | rfl := hf <;> cases hb
    foreground := by obtain rfl | rfl | rfl := hf <;> simp [State.foregroundAgrees, hc, hm] }

/-- Below the bound there is room for one invocation more. -/
theorem withinNestMax_succ {d : Nat} (h : withinNestMax d) (hd : Config.nestMax ≠ some d) : withinNestMax (d + 1) :=
  fun m hm => lt_of_le_of_ne (h m hm) fun e => hd (e ▸ hm)

theorem State.Inv.tickInterrupt (h : s.Inv) (hc : s.cst = .running) (hm : s.mode = .interrupt)
    (hroom : Config.nestMax ≠ some s.istack.length) (v : Sample) : (s.testAndSetGuard.enterInvocation v).Inv :=
  { h with
    stackBound := by simpa using withinNestMax_succ h.stackBound hroom
    stackEmpty := fun _ => ⟨hc, hm⟩
    guardStack := by simp }

theorem State.Inv.sdoneInterrupt (h : s.Inv) (hc : s.cst = .running) (hm : s.mode = .interrupt) (y : Sample) :
    (s.leaveInvocation y).clearGuard.Inv :=
  { h with
    stackBound := fun m hn => by simpa using (Nat.sub_le _ 1).trans (h.stackBound m hn)
    stackEmpty := fun _ => ⟨hc, hm⟩
    guardStack := nofun }

theorem State.Inv.tickPhases (h : s.Inv) (hc : s.cst = .running) {n : Nat}
    (hn : s.bufLen = some n) (hf : s.fillIdx.toNat < n) (hd : s.drainIdx.toNat ≤ n) (v : Sample) :
    ((s.drainPhase n).capturePhase n v).Inv := by
  have hmem := State.tickPhases_wf h.memory n v
  have hf' := State.tickPhases_fillIdx_lt hn hf v
  have hd' := State.tickPhases_drainIdx_le hn hd v
  have e := State.tickPhases_frame s n v
  dsimp only at e
  generalize (s.drainPhase n).capturePhase n v = t at *
  rw [e]
  exact { h with
    memory := hmem
    indices := fun _ _ => ⟨n, hn, hf', hd'⟩
    cleared := by simp [hc] }

theorem State.Inv.grant (h : s.Inv) (hc : s.cst = .running) (hm : s.mode = .blockDMA) : s.grant.Inv :=
  { h with
    grantLabel := fun _ => rfl
    foreground := by simp [State.foregroundAgrees, hc, hm] }

theorem State.Inv.memWrite (h : s.Inv) (hc : s.cst = .running) (a : BufAddr) (v : Sample) : (s.memWrite a v).Inv :=
  { h with
    memory := State.memWrite_wf h.memory a v
    cleared := by simp [hc] }

theorem State.Inv.publish (h : s.Inv) (hc : s.cst = .running) (hm : s.mode = .blockDMA) : s.publish.Inv :=
  { h with
    grantLabel := nofun
    consumerRoles := fun _ _ => rfl
    foreground := by simp [State.foregroundAgrees, hc, hm] }

theorem resultOf_ok_inv {i : Instr} (h : s.Inv) (hr : resultOf i s = .ok t) : t.Inv := by
  cases i with
  | cfg m r c l =>
    obtain ⟨hc, hsrc, hlen, hrate, rfl⟩ := cfgRule_ok hr
    exact h.configure hc hsrc hlen hrate
  | run =>
    obtain ⟨hc, hm, rfl⟩ := runRule_ok hr
    exact h.runStart hc hm
  | tick v =>
    obtain ⟨hc, ⟨hm, hroom, rfl⟩ | ⟨-, n, hn, hf, hd, rfl⟩⟩ := tickRule_ok hr
    · exact h.tickInterrupt hc hm hroom v
    · exact h.tickPhases hc hn hf hd v
  | bpoll =>
    obtain ⟨hc, hm, -, ⟨-, rfl⟩ | ⟨-, rfl⟩⟩ := bpollRule_ok hr
    · exact h.grant hc hm
    · exact h
  | ptrig =>
    obtain ⟨hc, hm, -, rfl⟩ := ptrigRule_ok hr
    exact (h.emit _).setFg_polling hc hm (by simp)
  | cdone x =>
    obtain ⟨hc, hm, -, rfl⟩ := cdoneRule_ok hr
    exact ((h.frame (t := { s with psample := x }) rfl).emit _).setFg_polling hc hm (by simp)
  | sdone y =>
    obtain ⟨hc, ⟨hm, -, rfl⟩ | ⟨hm, -, rfl⟩⟩ := sdoneRule_ok hr
    · exact (h.emit _).setFg_polling hc hm (by simp)
    · exact h.sdoneInterrupt hc hm y
  | xrd sel idx =>
    obtain ⟨-, -, -, -, rfl⟩ := xrdRule_ok hr
    exact h.frame rfl
  | xwr idx v =>
    obtain ⟨hc, -, -, -, rfl⟩ := xwrRule_ok hr
    exact h.memWrite hc _ v
  | bdone =>
    obtain ⟨hc, hm, -, rfl⟩ := bdoneRule_ok hr
    exact h.publish hc hm
  | measS =>
    obtain ⟨-, rfl⟩ := measSampleRule_ok hr
    exact h.measure _ _
  | measB =>
    obtain ⟨-, -, rfl⟩ := measBlockRule_ok hr
    exact h.measure _ _

theorem exec_inv {i : Instr} (h : s.Inv) (he : exec i s = .next t) : t.Inv := by
  rw [exec_eq_settle] at he
  obtain hr | ⟨-, rfl⟩ | ⟨c, hr, rfl⟩ | ⟨q, -, rfl⟩ | ⟨q, -, rfl⟩ := settle_next he
  · exact resultOf_ok_inv h hr
  · exact h
  · exact h.raiseFatal (resultOf_fatal hr) c
  · exact h.frame rfl
  · exact h.frame rfl

/-- Settles O12: RST and power-on lead to the reset state but for what the invariant leaves free, each event's update
keeps the invariant, and so do a wait, a refusal and a fault. -/
theorem stepKeepsTheInvariant : Obligations.StepKeepsTheInvariant := by
  intro s t h hs
  obtain ⟨-, rfl⟩ | ⟨_, -, rfl⟩ | ⟨_, -, rfl⟩ | ⟨_, _, -, ⟨i, -, he⟩ | ⟨_, -, rfl⟩⟩ := step_next hs
  · exact h
  · exact s.takeInput.rst_inv
  · exact s.takeInput.powerOn_inv
  · exact exec_inv (h.frame rfl) he
  · exact h.frame rfl

/-- Settles O11: the invariant holds item by item, and the other two speak of RUNNING states alone. -/
theorem resetMeetsTheInvariants : Obligations.ResetMeetsTheInvariants :=
  ⟨State.reset_inv, nofun, nofun⟩

end Sys2Proof.Machine
end

section
/-! Each event as one update of the state (`effect`) and one list of output events (`emitted`); whether the update runs,
and with what reason not, is read from registers alone (10_state.md R10, R34, R41). -/
namespace Sys2Proof.Machine

variable {s t : State}

/-- The update that an event makes where its rule answers `ok`. -/
def effect (i : Instr) (s : State) : State :=
  match i with
  | .cfg mode rate src len => s.configure mode rate src len
  | .run => { s.runInit with cst := .running, fg := startForeground s.mode }
  | .tick v =>
    if s.mode = .interrupt then s.testAndSetGuard.enterInvocation v
    else (s.drainPhase (s.bufLen.getD 0)).capturePhase (s.bufLen.getD 0) v
  | .bpoll => if s.bufferReady then s.grant else s
  | .ptrig => (s.emit (.convStart s.src)).setFg .pConv
  | .cdone x => s.fetchSample x
  | .sdone y =>
    if s.mode = .interrupt then (s.leaveInvocation y).clearGuard else (s.emit (.dacOut y)).setFg .pTrig
  | .xrd sel idx => { s with rdata := s.memRead (s.readAddr sel idx) }
  | .xwr idx v => s.memWrite (s.writeAddr idx) v
  | .bdone => s.publish
  | .measS => s.measure (drawTrials s.draws) (drawTrials (s.draws + 11))
  | .measB => s.measure (drawTrials s.draws) (drawTrials (s.draws + 11))

/-- The output of a tick in BlockDMA: the swap that is due, the sample drained, the completion (44_block_producer.md
R171, R172, R175). -/
def State.tickOutput (s : State) (n : Nat) : List OutEvent :=
  let swap := s.drainIdx.toNat = n
  (if swap then [.drainSwap s.pbW] else []) ++
    [.dacOut (s.memRead (pbAddr (if swap then s.pbW else s.pbR) (idxBits (if swap then 0 else s.drainIdx))))] ++
    if (s.fillIdx + 1).toNat = n then [.capDone s.capW] else []

/-- What an event's update appends to the output trace. -/
def emitted (i : Instr) (s : State) : List OutEvent :=
  match i with
  | .tick v => if s.mode = .interrupt then [.sreq v] else s.tickOutput (s.bufLen.getD 0)
  | .bpoll => if s.bufferReady then [.breq (other s.capR)] else []
  | .ptrig => [.convStart s.src]
  | .cdone x => [.sreq x]
  | .sdone y => [.dacOut y]
  | .cfg _ _ _ _ | .run | .xrd _ _ | .xwr _ _ | .bdone | .measS | .measB => []

/-- Where an event's rule answers `ok`, the answer is the event's update. -/
theorem resultOf_ok_eq_effect {i : Instr} (h : resultOf i s = .ok t) : t = effect i s := by
  cases i with
  | cfg m r c l => obtain ⟨-, -, -, -, e⟩ := cfgRule_ok h; exact e
  | run => obtain ⟨-, -, e⟩ := runRule_ok h; exact e
  | tick v =>
    obtain ⟨-, ⟨hm, -, rfl⟩ | ⟨hm, n, hn, -, -, rfl⟩⟩ := tickRule_ok h
    · simp [effect, hm]
    · simp [effect, hm, hn]
  | bpoll =>
    obtain ⟨-, -, -, ⟨hw, rfl⟩ | ⟨hw, rfl⟩⟩ := bpollRule_ok h <;> simp [effect, State.bufferReady, hw]
  | ptrig => obtain ⟨-, -, -, e⟩ := ptrigRule_ok h; exact e
  | cdone x => obtain ⟨-, -, -, e⟩ := cdoneRule_ok h; exact e
  | sdone y =>
    obtain ⟨-, ⟨hm, -, rfl⟩ | ⟨hm, -, rfl⟩⟩ := sdoneRule_ok h <;> simp [effect, hm]
  | xrd sel idx => obtain ⟨-, -, -, -, e⟩ := xrdRule_ok h; exact e
  | xwr idx v => obtain ⟨-, -, -, -, e⟩ := xwrRule_ok h; exact e
  | bdone => obtain ⟨-, -, -, e⟩ := bdoneRule_ok h; exact e
  | measS => obtain ⟨-, e⟩ := measSampleRule_ok h; exact e
  | measB => obtain ⟨-, -, e⟩ := measBlockRule_ok h; exact e

/-- An event makes its update, or all but CST, FCAUSE and the two marks stays. -/
theorem exec_next_effect {i : Instr} (h : exec i s = .next t) :
    t = effect i s ∨ t = { s with cst := t.cst, fcause := t.fcause, faulted := t.faulted, refused := t.refused } :=
  (exec_next h).imp_left resultOf_ok_eq_effect

/-! ## The same verdict -/

/-- The outcome with another state in place of the one answered. -/
def Result.withState (t : State) : Result → Result
  | .ok _ => .ok t
  | r => r

variable {body : Result}

theorem whenRunning_withState : (whenRunning s body).withState t = whenRunning s (body.withState t) := by
  unfold whenRunning
  cases s.cst <;> rfl

theorem inMode_withState {m : Mode} : (inMode m s body).withState t = inMode m s (body.withState t) := by
  rw [inMode, whenRunning_withState, apply_ite (Result.withState t)]
  rfl

theorem withLen_withState {body : Nat → Result} :
    (withLen s body).withState t = withLen s fun n => (body n).withState t := by
  unfold withLen
  cases s.bufLen <;> rfl

theorem withLen_congr {b b' : Nat → Result} (h : ∀ n, s.bufLen = some n → b n = b' n) :
    withLen s b = withLen s b' := by
  unfold withLen
  cases hn : s.bufLen with
  | none => rfl
  | some n => exact h n hn

theorem engineAccess_withState {idx : BitVec 7} :
    (engineAccess s idx body).withState t = engineAccess s idx (body.withState t) := by
  simp only [engineAccess, inMode_withState, apply_ite (Result.withState t), withLen_withState]
  rfl

theorem whenIdle_withState : (whenIdle s body).withState t = whenIdle s (body.withState t) := by
  unfold whenIdle
  cases s.cst <;> rfl

/-- The state with other marks and, beside the block, other inputs to come, another output so far and other draws. -/
def State.recast (s : State) (f r c p : Bool) (ins : List Input) (out : List OutEvent) (d : Nat) : State :=
  { s with faulted := f, refused := r, capRace := c, pbRace := p, pending := ins, trace := out, draws := d }

variable (i : Instr) (s) (f r c p : Bool) (ins : List Input) (out : List OutEvent) (d : Nat)

/-! What the branches read. These are proved by rewriting, so that `simp` takes the conditions' decision procedures
along. -/

theorem State.recast_mode : (s.recast f r c p ins out d).mode = s.mode := by simp only [State.recast]
theorem State.recast_bufLen : (s.recast f r c p ins out d).bufLen = s.bufLen := by
  simp only [State.recast, State.bufLen]
theorem State.recast_bufferReady : (s.recast f r c p ins out d).bufferReady = s.bufferReady := by
  unfold State.recast State.bufferReady
  rfl

/-- A state with the same tuple is the state with other things beside it. -/
theorem State.eq_recast {s s' : State} (h : s.toBlockState = s'.toBlockState) :
    s' = s.recast s.faulted s.refused s.capRace s.pbRace s'.pending s'.trace s'.draws := by
  obtain ⟨b, ins, out, d⟩ := s
  obtain ⟨b', ins', out', d'⟩ := s'
  cases h
  rfl

/-- Whether an event runs, and with what reason not, depends neither on the marks nor on what stands beside
the block. -/
theorem resultOf_recast :
    resultOf i (s.recast f r c p ins out d) = (resultOf i s).withState (effect i (s.recast f r c p ins out d)) := by
  cases i
  case tick v =>
    simp only [resultOf, tickRule, whenRunning_withState, effect, State.recast_mode]
    refine congrArg (whenRunning s) ?_
    cases s.mode with
    | polling => rfl
    | interrupt =>
      simp only [tickInterrupt, apply_ite (Result.withState _)]
      rfl
    | blockDMA =>
      simp only [tickBlock, withLen_withState, apply_ite (Result.withState _), State.recast_bufLen, reduceCtorEq,
        if_false]
      refine withLen_congr (s := s) fun n hn => ?_
      simp only [hn, Option.getD_some]
      rfl
    | none => rfl
  case sdone y =>
    simp only [resultOf, sdoneRule, whenRunning_withState, effect, State.recast_mode]
    refine congrArg (whenRunning s) ?_
    cases s.mode with
    | polling =>
      simp only [sdonePolling, apply_ite (Result.withState _)]
      rfl
    | interrupt =>
      simp only [sdoneInterrupt, apply_ite (Result.withState _)]
      rfl
    | blockDMA => rfl
    | none => rfl
  case bpoll =>
    simp only [resultOf, bpollRule, inMode_withState, apply_ite (Result.withState _), effect,
      State.recast_bufferReady]
    refine congrArg (inMode .blockDMA s) ?_
    cases s.bufferReady <;> rfl
  all_goals
    simp only [resultOf, cfgRule, runRule, ptrigRule, cdoneRule, xrdRule, xwrRule, bdoneRule, measSampleRule,
      measBlockRule, inMode_withState, engineAccess_withState, whenIdle_withState, apply_ite (Result.withState _)]
    rfl

/-! ## The same update -/

theorem State.tickPhases_recast (n : Nat) (v : Sample) :
    ((s.recast f r c p ins out d).drainPhase n).capturePhase n v =
      ((s.drainPhase n).capturePhase n v).recast f r
        (c || (decide (s.fg = .bBusy) && decide (s.capW = s.blbl)))
        (p || (decide (s.fg = .bBusy) && decide ((if s.drainIdx.toNat = n then s.pbW else s.pbR) = s.blbl)))
        ins (out ++ s.tickOutput n) d := by
  simp only [State.capturePhase_eq, State.drainPhase_eq, State.tickOutput, ← List.append_assoc]
  rfl

/-- An event's update takes the inputs to come, the output so far, the draws and each mark along, and reads none of them
but, to measure, the draws. -/
theorem effect_recast : ∃ (cr pr : Bool → Bool) (k : Nat), ∀ f r c p ins out d,
    d = s.draws ∨ (i ≠ .measS ∧ i ≠ .measB) →
      effect i (s.recast f r c p ins out d)
        = (effect i s).recast f r (cr c) (pr p) ins (out ++ emitted i s) (d + k) := by
  cases i
  case run =>
    refine ⟨fun _ => false, fun _ => false, 0, fun f r c p ins out d _ => ?_⟩
    rw [emitted, List.append_nil]
    rfl
  case tick v =>
    by_cases hm : s.mode = .interrupt
    · refine ⟨id, id, 0, fun f r c p ins out d _ => ?_⟩
      simp only [effect, emitted, State.recast_mode, hm, if_true]
      rfl
    · refine ⟨(· || (decide (s.fg = .bBusy) && decide (s.capW = s.blbl))),
        (· || (decide (s.fg = .bBusy) &&
          decide ((if s.drainIdx.toNat = s.bufLen.getD 0 then s.pbW else s.pbR) = s.blbl))),
        0, fun f r c p ins out d _ => ?_⟩
      simp only [effect, emitted, State.recast_mode, hm, if_false]
      exact State.tickPhases_recast s f r c p ins out d _ v
  case bpoll =>
    refine ⟨id, id, 0, fun f r c p ins out d _ => ?_⟩
    simp only [effect, emitted, State.recast_bufferReady]
    split_ifs
    · rfl
    · rw [List.append_nil]; rfl
  case sdone y =>
    refine ⟨id, id, 0, fun f r c p ins out d _ => ?_⟩
    simp only [effect, emitted, State.recast_mode]
    split_ifs <;> rfl
  case measS =>
    refine ⟨id, id, 22, fun f r c p ins out d hd => ?_⟩
    obtain rfl := hd.resolve_right (by simp)
    rw [emitted, List.append_nil]
    rfl
  case measB =>
    refine ⟨id, id, 22, fun f r c p ins out d hd => ?_⟩
    obtain rfl := hd.resolve_right (by simp)
    rw [emitted, List.append_nil]
    rfl
  all_goals
    refine ⟨id, id, 0, fun f r c p ins out d _ => ?_⟩
    simp only [emitted, List.append_nil]
    rfl

theorem effect_trace : (effect i s).trace = s.trace ++ emitted i s := by
  obtain ⟨cr, pr, k, h⟩ := effect_recast s i
  exact congrArg State.trace (h s.faulted s.refused s.capRace s.pbRace s.pending s.trace s.draws (.inl rfl))

variable {i s}

/-- The same for the whole event: its outcome takes the marks and what stands beside the block along. -/
theorem exec_recast (h : exec i s = .next t) :
    ∃ (fr rr cr pr : Bool → Bool) (es : List OutEvent) (k : Nat), ∀ f r c p ins out d,
      d = s.draws ∨ (i ≠ .measS ∧ i ≠ .measB) →
        exec i (s.recast f r c p ins out d)
          = .next (t.recast (fr f) (rr r) (cr c) (pr p) ins (out ++ es) (d + k)) := by
  simp only [exec_eq_settle, resultOf_recast] at h ⊢
  obtain e | ⟨e, rfl⟩ | ⟨c, e, rfl⟩ | ⟨q, e, rfl⟩ | ⟨q, e, rfl⟩ := settle_next h <;> rw [e]
  · obtain ⟨cr, pr, k, hr⟩ := effect_recast s i
    obtain rfl := resultOf_ok_eq_effect e
    exact ⟨id, id, cr, pr, emitted i s, k, fun f r c p ins out d hd => congrArg _ (hr f r c p ins out d hd)⟩
  · exact ⟨id, id, id, id, [], 0, fun _ _ _ _ _ _ _ _ => by rw [List.append_nil]; rfl⟩
  · exact ⟨id, id, id, id, [], 0, fun _ _ _ _ _ _ _ _ => by rw [List.append_nil]; rfl⟩
  · exact ⟨id, fun _ => true, id, id, [], 0, fun _ _ _ _ _ _ _ _ => by rw [List.append_nil]; rfl⟩
  · exact ⟨fun _ => true, id, id, id, [], 0, fun _ _ _ _ _ _ _ _ => by rw [List.append_nil]; rfl⟩

/-- With `exec_recast` at the state itself: what stands beside the block after an event. -/
theorem eq_recast_of_exec (h : exec i s = .next t) {fr rr cr pr : Bool → Bool} {es : List OutEvent} {k : Nat}
    (hr : ∀ f r c p ins out d, d = s.draws ∨ (i ≠ .measS ∧ i ≠ .measB) →
      exec i (s.recast f r c p ins out d) = .next (t.recast (fr f) (rr r) (cr c) (pr p) ins (out ++ es) (d + k))) :
    t = t.recast (fr s.faulted) (rr s.refused) (cr s.capRace) (pr s.pbRace) s.pending (s.trace ++ es) (s.draws + k) :=
  Host.Outcome.next.inj (h.symm.trans
    (hr s.faulted s.refused s.capRace s.pbRace s.pending s.trace s.draws (.inl rfl)))

theorem exec_recast_fault {e : Fault} (h : exec i s = .fault e) :
    exec i (s.recast f r c p ins out d) = .fault e := by
  simp only [exec_eq_settle, resultOf_recast] at h ⊢
  cases hr : resultOf i s <;> simp_all [settle, Result.withState]

end Sys2Proof.Machine
end

section
/-! What an event reads: the tuple alone, and no mark (10_state.md R10, R34). -/
namespace Sys2Proof.Machine

theorem newEvents_of_trace_eq {s t : State} {es : List OutEvent} (h : t.trace = s.trace ++ es) :
    newEvents s t = es := by
  rw [newEvents, h, List.drop_left]

/-- Settles O3: both outcomes are one outcome with other things beside the block, followed by the same output. -/
theorem outcomeDependsOnTheTupleAlone : Obligations.OutcomeDependsOnTheTupleAlone := by
  intro i s s' hb hd
  have hs := State.eq_recast hb
  refine ⟨fun t h => ?_, fun e h => by rw [hs]; exact exec_recast_fault _ _ _ _ _ _ _ h⟩
  obtain ⟨fr, rr, cr, pr, es, k, hr⟩ := exec_recast h
  have ht := eq_recast_of_exec h hr
  have htrace : t.trace = s.trace ++ es := congrArg State.trace ht
  have hes := newEvents_of_trace_eq htrace
  have h' := hr s.faulted s.refused s.capRace s.pbRace s'.pending s'.trace s'.draws (hd.imp_left Eq.symm)
  rw [← hs] at h'
  rw [hes]
  exact ⟨congrArg (·.pending) ht, htrace, _, h', (congrArg State.toBlockState ht).symm, newEvents_of_trace_eq rfl⟩

/-- Settles O55: the marks are taken along, and no telemetry level reads one. -/
theorem marksAreInvisible : Obligations.MarksAreInvisible := by
  intro i s t f r c p h
  refine ⟨?_, rfl, rfl, fun _ => rfl⟩
  obtain ⟨fr, rr, cr, pr, es, k, hr⟩ := exec_recast h
  refine ⟨fr f, rr r, cr c, pr p, (hr f r c p s.pending s.trace s.draws (.inl rfl)).trans ?_⟩
  rw [eq_recast_of_exec h hr]
  rfl

end Sys2Proof.Machine
end

section
/-! What an event's update leaves alone: configuration, response registers and roles (10_state.md R17, R20 to R23, R32,
R33), and the steps that write them. -/
namespace Sys2Proof.Machine

variable (i : Instr) (s : State) (n : Nat) (v : Sample)

@[simp] theorem State.tickPhases_mode : ((s.drainPhase n).capturePhase n v).mode = s.mode := by
  rw [State.tickPhases_frame]
@[simp] theorem State.tickPhases_rate : ((s.drainPhase n).capturePhase n v).rate = s.rate := by
  rw [State.tickPhases_frame]
@[simp] theorem State.tickPhases_src : ((s.drainPhase n).capturePhase n v).src = s.src := by
  rw [State.tickPhases_frame]
@[simp] theorem State.tickPhases_len : ((s.drainPhase n).capturePhase n v).len = s.len := by
  rw [State.tickPhases_frame]
@[simp] theorem State.tickPhases_capR : ((s.drainPhase n).capturePhase n v).capR = s.capR := by
  rw [State.tickPhases_frame]
@[simp] theorem State.tickPhases_pbW : ((s.drainPhase n).capturePhase n v).pbW = s.pbW := by
  rw [State.tickPhases_frame]
@[simp] theorem State.tickPhases_rdata : ((s.drainPhase n).capturePhase n v).rdata = s.rdata := by
  rw [State.tickPhases_frame]
@[simp] theorem State.tickPhases_mres : ((s.drainPhase n).capturePhase n v).mres = s.mres := by
  rw [State.tickPhases_frame]

/-- CAP_W changes with the completion alone (44_block_producer.md R175). -/
theorem State.tickPhases_capW :
    ((s.drainPhase n).capturePhase n v).capW = s.capW ∨ .capDone s.capW ∈ s.tickOutput n := by
  by_cases h : (s.fillIdx + 1).toNat = n
  · exact .inr (by simp only [State.tickOutput, h, if_true, List.mem_append, List.mem_singleton, or_true])
  · exact .inl (by simp only [State.capturePhase_eq, State.drainPhase_eq, h, if_false])

/-- PB_R changes with the drain swap alone (44_block_producer.md R172). -/
theorem State.tickPhases_pbR :
    ((s.drainPhase n).capturePhase n v).pbR = s.pbR ∨ .drainSwap s.pbW ∈ s.tickOutput n := by
  by_cases h : s.drainIdx.toNat = n
  · exact .inr (by simp [State.tickOutput, h])
  · exact .inl (by simp [State.capturePhase_eq, State.drainPhase_eq, h])

variable {i s}

theorem effect_config (hi : ∀ m r c l, i ≠ .cfg m r c l) :
    (effect i s).mode = s.mode ∧ (effect i s).rate = s.rate ∧ (effect i s).src = s.src ∧ (effect i s).len = s.len := by
  cases i
  case cfg m r c l => exact absurd rfl (hi m r c l)
  case tick | bpoll | sdone => simp only [effect]; split_ifs <;> simp
  all_goals simp [effect]

theorem effect_rdata (hi : ∀ sel idx, i ≠ .xrd sel idx) : (effect i s).rdata = s.rdata := by
  cases i
  case xrd sel idx => exact absurd rfl (hi sel idx)
  case tick | bpoll | sdone => simp only [effect]; split_ifs <;> simp
  all_goals simp [effect]

theorem effect_mres (hS : i ≠ .measS) (hB : i ≠ .measB) : (effect i s).mres = s.mres := by
  cases i
  case measS => exact absurd rfl hS
  case measB => exact absurd rfl hB
  case tick | bpoll | sdone => simp only [effect]; split_ifs <;> simp
  all_goals simp [effect]

theorem effect_consumerRoles (hR : i ≠ .run) (hB : i ≠ .bdone) :
    (effect i s).capR = s.capR ∧ (effect i s).pbW = s.pbW := by
  cases i
  case run => exact absurd rfl hR
  case bdone => exact absurd rfl hB
  case tick | bpoll | sdone => simp only [effect]; split_ifs <;> simp
  all_goals simp [effect]

theorem effect_producerRoles (hR : i ≠ .run) (hT : ∀ v, i ≠ .tick v) :
    (effect i s).capW = s.capW ∧ (effect i s).pbR = s.pbR := by
  cases i
  case run => exact absurd rfl hR
  case tick v => exact absurd rfl (hT v)
  case bpoll | sdone => simp only [effect]; split_ifs <;> simp
  all_goals simp [effect]

/-- TICK tells of each change of CAP_W. -/
theorem effect_tick_capW : (effect (.tick v) s).capW = s.capW ∨ .capDone s.capW ∈ emitted (.tick v) s := by
  simp only [effect, emitted]
  split_ifs
  · exact .inl (by simp)
  · exact State.tickPhases_capW s _ v

/-- TICK tells of each change of PB_R. -/
theorem effect_tick_pbR : (effect (.tick v) s).pbR = s.pbR ∨ .drainSwap s.pbW ∈ emitted (.tick v) s := by
  simp only [effect, emitted]
  split_ifs
  · exact .inl (by simp)
  · exact State.tickPhases_pbR s _ v

variable {t : State}

theorem exec_config (h : exec i s = .next t) :
    (t.mode = s.mode ∧ t.rate = s.rate ∧ t.src = s.src ∧ t.len = s.len) ∨
      (s.cst = .unconf ∧ t.cst = .configured ∧ ∃ m r c l, i = .cfg m r c l) := by
  obtain hr | ht := exec_next h
  · by_cases hi : ∃ m r c l, i = .cfg m r c l
    · obtain ⟨m, r, c, l, rfl⟩ := hi
      obtain ⟨hc, -, -, -, rfl⟩ := cfgRule_ok hr
      exact .inr ⟨hc, rfl, m, r, c, l, rfl⟩
    · obtain rfl := resultOf_ok_eq_effect hr
      exact .inl (effect_config fun m r c l e => hi ⟨m, r, c, l, e⟩)
  · rw [ht]
    exact .inl ⟨rfl, rfl, rfl, rfl⟩

/-- Settles O49: of the inputs only RST and power-on write the configuration, and of the events only CFG. -/
theorem configurationIsWrittenOnce : Obligations.ConfigurationIsWrittenOnce := by
  intro s t h
  obtain hp | hp | ⟨w, i, hp, hd, he⟩ | ht := step_next_input h
  · exact .inr (.inr (.inl hp))
  · exact .inr (.inr (.inr hp))
  · obtain hk | ⟨hu, hc, m, r, c, l, rfl⟩ := exec_config he
    · exact .inl hk
    · exact .inr (.inl ⟨hu, hc, w, m, r, c, l, hp, hd⟩)
  · rw [ht]
    exact .inl ⟨rfl, rfl, rfl, rfl⟩

theorem exec_rdata (h : exec i s = .next t) (hc : t.rdata ≠ s.rdata) : ∃ sel idx, i = .xrd sel idx := by
  by_contra! hi
  obtain rfl | ht := exec_next_effect h
  · exact hc (effect_rdata hi)
  · exact hc (congrArg (·.rdata) ht)

theorem exec_mres (h : exec i s = .next t) (hc : t.mres ≠ s.mres) : i = .measS ∨ i = .measB := by
  by_contra! hi
  obtain rfl | ht := exec_next_effect h
  · exact hc (effect_mres hi.1 hi.2)
  · exact hc (congrArg (·.mres) ht)

/-- Settles O54: an event that changes a response register is one of its writers, and a wait or a refused word changes
neither. -/
theorem responseRegistersHaveTheirWriters : Obligations.ResponseRegistersHaveTheirWriters := by
  intro s t h
  obtain hp | hp | ⟨w, i, hp, hd, he⟩ | ht := step_next_input h
  · exact ⟨fun _ => .inl hp, fun _ => .inl hp⟩
  · exact ⟨fun _ => .inr (.inl hp), fun _ => .inr (.inl hp)⟩
  · refine ⟨fun hc => .inr (.inr ?_), fun hc => .inr (.inr ⟨w, hp, ?_⟩)⟩
    · obtain ⟨sel, idx, rfl⟩ := exec_rdata he hc
      exact ⟨w, sel, idx, hp, hd⟩
    · obtain rfl | rfl := exec_mres he hc
      · exact .inl hd
      · exact .inr hd
  · exact ⟨fun hc => absurd (congrArg (·.rdata) ht) hc, fun hc => absurd (congrArg (·.mres) ht) hc⟩

/-- Settles O34: no RUN is admitted while RUNNING, and of the other updates TICK's alone moves CAP_W and PB_R, telling
so, and BDONE's alone CAP_R and PB_W. -/
theorem eachRoleHasOneWriter : Obligations.EachRoleHasOneWriter := by
  intro i s t hc h
  obtain hr | ht := exec_next h
  · have hR : i ≠ .run := by
      rintro rfl
      simpa [hc] using (runRule_ok hr).1
    obtain rfl := resultOf_ok_eq_effect hr
    have hB : ¬((effect i s).capR = s.capR ∧ (effect i s).pbW = s.pbW) → i = .bdone := fun hn =>
      not_not.mp fun hB => hn (effect_consumerRoles hR hB)
    have hT : ¬((effect i s).capW = s.capW ∧ (effect i s).pbR = s.pbR) → ∃ v, i = .tick v := fun hn =>
      not_not.mp fun hT => hn (effect_producerRoles hR fun v e => hT ⟨v, e⟩)
    rw [newEvents_of_trace_eq (effect_trace s i)]
    refine ⟨fun hw => ?_, fun hw => ?_, fun hw => hB fun e => hw e.1, fun hw => hB fun e => hw e.2⟩
    · obtain ⟨v, rfl⟩ := hT fun e => hw e.1
      exact ⟨rfl, (effect_tick_capW v).resolve_left hw⟩
    · obtain ⟨v, rfl⟩ := hT fun e => hw e.2
      exact ⟨rfl, (effect_tick_pbR v).resolve_left hw⟩
  · exact ⟨absurd (congrArg (·.capW) ht), absurd (congrArg (·.pbR) ht), absurd (congrArg (·.capR) ht),
      absurd (congrArg (·.pbW) ht)⟩

end Sys2Proof.Machine
end

section
/-! Reset (10_state.md R42, 70_reset_and_hazards.md R290) and telemetry (10_state.md R40). -/
namespace Sys2Proof.Machine

variable {s : State}

theorem State.telAct_iff : s.telAct = true ↔ s.cst = .running ∧
    ((s.mode = .polling ∧ s.fg = .pXf) ∨ (s.mode = .interrupt ∧ 0 < s.istack.length) ∨
      (s.mode = .blockDMA ∧ s.fg = .bBusy)) := by
  simp [State.telAct, List.length_pos_iff, or_assoc]

theorem State.telErr_of_fatal (h : s.cst = .fatal) (k : Nat) : s.telErr k = Config.blinkLevel k := if_pos h

theorem State.telErr_of_ne_fatal (h : s.cst ≠ .fatal) (k : Nat) : s.telErr k = s.ovr := if_neg h

theorem State.telDrain_of_blockDMA (hc : s.cst = .running) (hm : s.mode = .blockDMA) : s.telDrain = labelCode s.pbR :=
  if_pos ⟨hc, hm⟩

theorem State.telDrain_eq_zero (h : ¬(s.cst = .running ∧ s.mode = .blockDMA)) : s.telDrain = 0 := if_neg h

/-- Settles O58, level by level. -/
theorem telemetryFollowsItsRule : Obligations.TelemetryFollowsItsRule := fun _ k =>
  ⟨State.telAct_iff, fun h => State.telErr_of_fatal h k, fun h => State.telErr_of_ne_fatal h k,
    State.telDrain_of_blockDMA, State.telDrain_eq_zero⟩

/-- Settles O1: the step delivers RST or power-on, and either writes the table of R42. -/
theorem resetSetsEveryRegister : Obligations.ResetSetsEveryRegister := by
  intro s inp rest hi hp
  obtain rfl | rfl := hi <;>
    exact ⟨_, step_of_cons hp, by
      simp [State.reset, State.memRead, memLookup, unlisted, State.telAct, State.telErr, State.telErrAt,
        State.telDrain]⟩

end Sys2Proof.Machine
end

section
/-! The buffer space (20_memory.md R50 to R55): what each event stores, and a host's bytes. -/
namespace Sys2Proof.Machine

variable {i : Instr} {s t : State}

theorem effect_mem (hC : ∀ m r c l, i ≠ .cfg m r c l) (hT : ∀ v, i ≠ .tick v) (hX : ∀ idx v, i ≠ .xwr idx v) :
    (effect i s).mem = s.mem := by
  cases i
  case cfg m r c l => exact absurd rfl (hC m r c l)
  case tick v => exact absurd rfl (hT v)
  case xwr idx v => exact absurd rfl (hX idx v)
  case bpoll | sdone => simp only [effect]; split_ifs <;> simp
  all_goals simp [effect]

/-- A tick in BlockDMA stores through the capture port alone: the drain moves neither CAP_W nor FILL_IDX. -/
theorem State.tickPhases_mem (s : State) (n : Nat) (v : Sample) :
    ((s.drainPhase n).capturePhase n v).mem = (s.memWrite s.captureAddr v).mem := by
  simp only [State.capturePhase_eq, State.drainPhase_eq]
  rfl

/-- An event leaves the memory as it is, or goes through one of the three ports (20_memory.md R53): the clear port, the
capture write, the engine write. -/
theorem exec_mem (h : exec i s = .next t) :
    t.mem = s.mem ∨
      (∃ m r c l, i = .cfg m r c l ∧ s.cst = .unconf ∧ t.mem = s.memClear.mem) ∨
      (∃ v, i = .tick v ∧ s.cst = .running ∧ s.mode = .blockDMA ∧ t.mem = (s.memWrite s.captureAddr v).mem) ∨
      (∃ idx v, i = .xwr idx v ∧ s.cst = .running ∧ s.mode = .blockDMA ∧ s.fg = .bBusy ∧
        t.mem = (s.memWrite (s.writeAddr idx) v).mem) := by
  obtain hr | ht := exec_next h
  · cases i
    case cfg m r c l =>
      obtain ⟨hc, -, -, -, rfl⟩ := cfgRule_ok hr
      exact .inr (.inl ⟨m, r, c, l, rfl, hc, rfl⟩)
    case tick v =>
      obtain ⟨hc, ⟨-, -, rfl⟩ | ⟨hm, n, -, -, -, rfl⟩⟩ := tickRule_ok hr
      · exact .inl rfl
      · exact .inr (.inr (.inl ⟨v, rfl, hc, hm, State.tickPhases_mem s n v⟩))
    case xwr idx v =>
      obtain ⟨hc, hm, hf, -, rfl⟩ := xwrRule_ok hr
      exact .inr (.inr (.inr ⟨idx, v, rfl, hc, hm, hf, rfl⟩))
    all_goals
      obtain rfl := resultOf_ok_eq_effect hr
      exact .inl (effect_mem nofun nofun nofun)
  · exact .inl (congrArg (·.mem) ht)

theorem exec_wf (hw : memWf s.mem = true) (h : exec i s = .next t) : memWf t.mem = true := by
  obtain e | ⟨_, _, _, _, -, -, e⟩ | ⟨v, -, -, -, e⟩ | ⟨idx, v, -, -, -, -, e⟩ := exec_mem h <;> rw [e]
  · exact hw
  · exact s.memClear_wf
  · exact State.memWrite_wf hw _ v
  · exact State.memWrite_wf hw _ v

/-- Settles O13: RST and power-on list nothing, an event stores through its port alone, and a wait or a refused word
stores nothing. -/
theorem stepKeepsMemoryCanonical : Obligations.StepKeepsMemoryCanonical := by
  intro s t hw h
  obtain ⟨-, rfl⟩ | ⟨_, -, rfl⟩ | ⟨_, -, rfl⟩ | ⟨_, _, -, ⟨i, -, he⟩ | ⟨_, -, rfl⟩⟩ := step_next h
  · exact hw
  · exact s.takeInput.rst_wf
  · exact s.takeInput.rst_wf
  · exact exec_wf (s := s.takeInput) hw he
  · exact hw

/-- If the memory is that of `s` after one store, a halfword that reads differently is the one stored to. -/
theorem State.memRead_ne_of_mem_memWrite (hw : memWf s.mem = true) {a b : BufAddr} {v : Sample}
    (e : t.mem = (s.memWrite a v).mem) (hne : t.memRead b ≠ s.memRead b) : b = a ∧ t.memRead b = v := by
  rw [State.memRead_eq_of_mem e, State.memRead_memWrite hw] at hne ⊢
  split_ifs at hne ⊢ with hab
  · exact ⟨hab.symm, rfl⟩
  · exact absurd rfl hne

/-- Settles O53: by the port through which the event stores. -/
theorem onlyThreeEventsStore : Obligations.OnlyThreeEventsStore := by
  intro i s t hw h a hne
  obtain e | ⟨m, r, c, l, hi, hc, e⟩ | ⟨v, hi, hc, hm, e⟩ | ⟨idx, v, hi, hc, hm, hf, e⟩ := exec_mem h
  · exact absurd (State.memRead_eq_of_mem e a) hne
  · exact .inl ⟨m, r, c, l, hi, hc, (State.memRead_eq_of_mem e a).trans (s.memRead_memClear a)⟩
  · exact .inr (.inl ⟨v, hi, hc, hm, State.memRead_ne_of_mem_memWrite hw e hne⟩)
  · exact .inr (.inr ⟨idx, v, hi, hc, hm, hf, State.memRead_ne_of_mem_memWrite hw e hne⟩)

/-! ## The byte view (20_memory.md R55) -/

theorem hostByteIn_even (o : Config.ByteOrder) (s : State) (a : BufAddr) :
    hostByteIn o s (2 * a.toNat) =
      some (if o = .big then (s.memRead a).extractLsb 15 8 else (s.memRead a).extractLsb 7 0) := by
  have hb : 2 * a.toNat < 2 * bufSpace := Nat.mul_lt_mul_of_pos_left (bufAddr_lt a) two_pos
  cases o <;> simp [hostByteIn, hb]

theorem hostByteIn_odd (o : Config.ByteOrder) (s : State) (a : BufAddr) :
    hostByteIn o s (2 * a.toNat + 1) =
      some (if o = .big then (s.memRead a).extractLsb 7 0 else (s.memRead a).extractLsb 15 8) := by
  have hb : 2 * a.toNat + 1 < 2 * bufSpace := by have := bufAddr_lt a; omega
  have hh : (2 * a.toNat + 1) / 2 = a.toNat := by omega
  cases o <;> simp [hostByteIn, hb, hh]

theorem hostByteIn_eq_none (o : Config.ByteOrder) (s : State) {b : Nat} (hb : 2 * bufSpace ≤ b) :
    hostByteIn o s b = none :=
  if_neg hb.not_gt

/-- Settles O59: the bytes at 2a and 2a + 1 in either order, and none beyond the buffer space. -/
theorem hostBytesAreTheHalfword : Obligations.HostBytesAreTheHalfword := fun s a =>
  ⟨hostByteIn_even .little s a, hostByteIn_odd .little s a, hostByteIn_even .big s a, hostByteIn_odd .big s a,
    fun _ => rfl, fun o _ hb => hostByteIn_eq_none o s hb⟩

end Sys2Proof.Machine
end

section
/-! Words as fields side by side (30_encoding.md R70 to R77), and decoding against encoding (R81 to R83). -/
namespace Sys2Proof

variable {w : EventWord} {i : Instr}

theorem ifZero_eq_ok {n : Nat} {z : BitVec n} {op : BitVec 4} {j : Instr} :
    ifZero z op j = .ok i ↔ z = 0 ∧ j = i := by
  unfold ifZero
  split_ifs with h <;> simp only [Except.ok.injEq, h, true_and, false_and]

theorem bitsOfMode_modeOfBits (b : BitVec 2) : bitsOfMode (modeOfBits b) = b := by
  decide +revert

theorem modeOfBits_bitsOfMode (m : Mode) : modeOfBits (bitsOfMode m) = m := by
  cases m <;> rfl

theorem bitsOfSel_selOfBits (b : BitVec 1) : bitsOfSel (selOfBits b) = b := by
  decide +revert

theorem selOfBits_bitsOfSel (s : Sel) : selOfBits (bitsOfSel s) = s := by
  cases s <;> rfl

/-! ## The formats: a word is put together of fields exactly if they are what the decoder extracts -/

section
variable {n m k : Nat} {a : BitVec n} {b : BitVec m}

theorem extractLsb'_eq_append (x : BitVec k) (start : Nat) :
    x.extractLsb' start (n + m) = a ++ b ↔ x.extractLsb' (start + m) n = a ∧ x.extractLsb' start m = b := by
  rw [← BitVec.extractLsb'_append_extractLsb'_eq_extractLsb' rfl]
  constructor
  · intro h
    have hl := congrArg (BitVec.extractLsb' m n) h
    have hr := congrArg (BitVec.extractLsb' 0 m) h
    rw [BitVec.extractLsb'_append_eq_left, BitVec.extractLsb'_append_eq_left] at hl
    rw [BitVec.extractLsb'_append_eq_right, BitVec.extractLsb'_append_eq_right] at hr
    exact ⟨hl, hr⟩
  · rintro ⟨rfl, rfl⟩
    rfl

theorem append_eq_iff_extractLsb' {x : BitVec (n + m)} :
    a ++ b = x ↔ x.extractLsb' m n = a ∧ x.extractLsb' 0 m = b := by
  have h := extractLsb'_eq_append (a := a) (b := b) x 0
  rwa [BitVec.extractLsb'_eq_self, Nat.zero_add, eq_comm] at h

end

/-- Format F-CFG (R72). -/
theorem formatCfg_eq_iff {op : BitVec 4} {m : BitVec 2} {r : BitVec 4} {c : BitVec 2} {l : BitVec 3} {z : BitVec 17} :
    op ++ m ++ r ++ c ++ l ++ z = w ↔
      ((((w.extractLsb 31 28 = op ∧ w.extractLsb 27 26 = m) ∧ w.extractLsb 25 22 = r) ∧ w.extractLsb 21 20 = c) ∧
        w.extractLsb 19 17 = l) ∧ w.extractLsb 16 0 = z := by
  refine append_eq_iff_extractLsb'.trans (and_congr_left' ?_)
  refine (extractLsb'_eq_append w 17).trans (and_congr_left' ?_)
  refine (extractLsb'_eq_append w 20).trans (and_congr_left' ?_)
  exact (extractLsb'_eq_append w 22).trans (and_congr_left' (extractLsb'_eq_append w 26))

/-- Format F-NONE (R73). -/
theorem formatNone_eq_iff {op : BitVec 4} {z : BitVec 28} :
    op ++ z = w ↔ w.extractLsb 31 28 = op ∧ w.extractLsb 27 0 = z :=
  append_eq_iff_extractLsb'

/-- Format F-VAL (R74). -/
theorem formatVal_eq_iff {op : BitVec 4} {z : BitVec 12} {v : BitVec 16} :
    op ++ z ++ v = w ↔ (w.extractLsb 31 28 = op ∧ w.extractLsb 27 16 = z) ∧ w.extractLsb 15 0 = v :=
  append_eq_iff_extractLsb'.trans (and_congr_left' (extractLsb'_eq_append w 16))

/-- Format F-XRD (R75). -/
theorem formatXrd_eq_iff {op : BitVec 4} {z : BitVec 20} {sel : BitVec 1} {idx : BitVec 7} :
    op ++ z ++ sel ++ idx = w ↔
      ((w.extractLsb 31 28 = op ∧ w.extractLsb 27 8 = z) ∧ w.extractLsb 7 7 = sel) ∧ w.extractLsb 6 0 = idx :=
  append_eq_iff_extractLsb'.trans (and_congr_left'
    ((extractLsb'_eq_append w 7).trans (and_congr_left' (extractLsb'_eq_append w 8))))

/-- Format F-XWR (R76). -/
theorem formatXwr_eq_iff {op : BitVec 4} {z : BitVec 5} {idx : BitVec 7} {v : BitVec 16} :
    op ++ z ++ idx ++ v = w ↔
      ((w.extractLsb 31 28 = op ∧ w.extractLsb 27 23 = z) ∧ w.extractLsb 22 16 = idx) ∧ w.extractLsb 15 0 = v :=
  append_eq_iff_extractLsb'.trans (and_congr_left'
    ((extractLsb'_eq_append w 16).trans (and_congr_left' (extractLsb'_eq_append w 23))))

/-- Format F-MEAS (R77). -/
theorem formatMeas_eq_iff {op : BitVec 4} {z : BitVec 27} {k : BitVec 1} :
    op ++ z ++ k = w ↔ (w.extractLsb 31 28 = op ∧ w.extractLsb 27 1 = z) ∧ w.extractLsb 0 0 = k :=
  append_eq_iff_extractLsb'.trans (and_congr_left' (extractLsb'_eq_append w 1))

/-! ## Decoding and encoding -/

theorem encode_of_decode (h : decode w = .ok i) : encode i = w := by
  unfold decode at h
  dsimp only at h
  split at h <;> simp only [ifZero_eq_ok, reduceCtorEq] at h <;> obtain ⟨hz, rfl⟩ := h
  case h_1 hop =>
    exact formatCfg_eq_iff.mpr
      ⟨⟨⟨⟨⟨BitVec.eq_of_toNat_eq hop, (bitsOfMode_modeOfBits _).symm⟩, rfl⟩, rfl⟩, rfl⟩, hz⟩
  case h_2 hop => exact formatNone_eq_iff.mpr ⟨BitVec.eq_of_toNat_eq hop, hz⟩
  case h_3 hop => exact formatVal_eq_iff.mpr ⟨⟨BitVec.eq_of_toNat_eq hop, hz⟩, rfl⟩
  case h_4 hop => exact formatNone_eq_iff.mpr ⟨BitVec.eq_of_toNat_eq hop, hz⟩
  case h_5 hop => exact formatNone_eq_iff.mpr ⟨BitVec.eq_of_toNat_eq hop, hz⟩
  case h_6 hop => exact formatVal_eq_iff.mpr ⟨⟨BitVec.eq_of_toNat_eq hop, hz⟩, rfl⟩
  case h_7 hop => exact formatVal_eq_iff.mpr ⟨⟨BitVec.eq_of_toNat_eq hop, hz⟩, rfl⟩
  case h_8 hop => exact formatXrd_eq_iff.mpr ⟨⟨⟨BitVec.eq_of_toNat_eq hop, hz⟩, (bitsOfSel_selOfBits _).symm⟩, rfl⟩
  case h_9 hop => exact formatXwr_eq_iff.mpr ⟨⟨⟨BitVec.eq_of_toNat_eq hop, hz⟩, rfl⟩, rfl⟩
  case h_10 hop => exact formatNone_eq_iff.mpr ⟨BitVec.eq_of_toNat_eq hop, hz⟩
  case h_11 hop =>
    split_ifs with hk
    · exact (formatMeas_eq_iff (op := 0xB#4) (z := 0#27) (k := 0#1)).mpr ⟨⟨BitVec.eq_of_toNat_eq hop, hz⟩, hk⟩
    · exact formatMeas_eq_iff.mpr ⟨⟨BitVec.eq_of_toNat_eq hop, hz⟩, (BitVec.eq_zero_or_eq_one _).resolve_left hk⟩

theorem decode_encode (i : Instr) : decode (encode i) = .ok i := by
  generalize h : encode i = w
  cases i with
  | cfg m r c l =>
    obtain ⟨⟨⟨⟨⟨hop, hm⟩, hr⟩, hc⟩, hl⟩, hz⟩ := formatCfg_eq_iff.mp h
    simp [decode, hop, hm, hr, hc, hl, hz, ifZero_eq_ok, modeOfBits_bitsOfMode]
  | tick v | cdone v | sdone v =>
    obtain ⟨⟨hop, hz⟩, hv⟩ := formatVal_eq_iff.mp h
    simp [decode, hop, hz, hv, ifZero_eq_ok]
  | xrd sel idx =>
    obtain ⟨⟨⟨hop, hz⟩, hs⟩, hi⟩ := formatXrd_eq_iff.mp h
    simp [decode, hop, hz, hs, hi, ifZero_eq_ok, selOfBits_bitsOfSel]
  | xwr idx v =>
    obtain ⟨⟨⟨hop, hz⟩, hi⟩, hv⟩ := formatXwr_eq_iff.mp h
    simp [decode, hop, hz, hi, hv, ifZero_eq_ok]
  | run | bpoll | ptrig | bdone | measS | measB => subst h; rfl

/-- Settles O7: the fields of the encoded word are the event's operands. -/
theorem decodeInvertsEncode : Obligations.DecodeInvertsEncode := decode_encode

/-- Settles O8: an accepted word is its fields side by side, and its reserved field is zero. -/
theorem encodeInvertsDecode : Obligations.EncodeInvertsDecode := fun _ _ => encode_of_decode

/-- Settles O10, word by word. -/
theorem writtenWordsDecode : Obligations.WrittenWordsDecode :=
  ⟨rfl, rfl, rfl, rfl, rfl, rfl, rfl⟩

/-! ## The rows of the opcode map -/

/-- Where a row's mask keeps a whole field, a word of the row has the pattern's value there. -/
theorem extractLsb_of_and_eq {mask pattern : EventWord} (h : w &&& mask = pattern) (hi lo : Nat)
    (hm : mask.extractLsb hi lo = BitVec.allOnes _) : w.extractLsb hi lo = pattern.extractLsb hi lo := by
  rw [← h, BitVec.extractLsb_and, hm, BitVec.and_allOnes]

theorem exists_decode_of_covers {r : OpRow} (hr : r ∈ opRows) (hc : r.covers w = true) : ∃ i, decode w = .ok i := by
  have field := extractLsb_of_and_eq (beq_iff_eq.mp hc)
  have hop : w.extractLsb 31 28 = r.pattern.extractLsb 31 28 :=
    field 31 28 ((by decide : ∀ r ∈ opRows, r.mask.extractLsb 31 28 = BitVec.allOnes 4) r hr)
  simp only [opRows, List.mem_cons, List.not_mem_nil, or_false] at hr
  rcases hr with rfl | rfl | rfl | rfl | rfl | rfl | rfl | rfl | rfl | rfl | rfl | rfl
  · simp [decode, hop, field 16 0 rfl, ifZero]
  · simp [decode, hop, field 27 0 rfl, ifZero]
  · simp [decode, hop, field 27 16 rfl, ifZero]
  · simp [decode, hop, field 27 0 rfl, ifZero]
  · simp [decode, hop, field 27 0 rfl, ifZero]
  · simp [decode, hop, field 27 16 rfl, ifZero]
  · simp [decode, hop, field 27 16 rfl, ifZero]
  · simp [decode, hop, field 27 8 rfl, ifZero]
  · simp [decode, hop, field 27 23 rfl, ifZero]
  · simp [decode, hop, field 27 0 rfl, ifZero]
  · simp [decode, hop, field 27 1 rfl, field 0 0 rfl, ifZero]
  · simp [decode, hop, field 27 1 rfl, field 0 0 rfl, ifZero]

theorem encode_spellsItsRow (i : Instr) : Laws.SpellsItsRow.Statement i := by
  cases i with
  | cfg mode rate src len => exact Laws.SpellsItsRow.cfg mode rate src len
  | run => exact Laws.SpellsItsRow.run
  | tick v => exact Laws.SpellsItsRow.tick v
  | bpoll => exact Laws.SpellsItsRow.bpoll
  | ptrig => exact Laws.SpellsItsRow.ptrig
  | cdone x => exact Laws.SpellsItsRow.cdone x
  | sdone y => exact Laws.SpellsItsRow.sdone y
  | xrd sel idx => exact Laws.SpellsItsRow.xrd sel idx
  | xwr idx v => exact Laws.SpellsItsRow.xwr idx v
  | bdone => exact Laws.SpellsItsRow.bdone
  | measS => exact Laws.SpellsItsRow.measS
  | measB => exact Laws.SpellsItsRow.measB

theorem wordWellFormed_iff : wordWellFormed w = true ↔ ∃ i, decode w = .ok i := by
  simp only [wordWellFormed, List.any_eq_true]
  constructor
  · rintro ⟨r, hr, hc⟩
    exact exists_decode_of_covers hr hc
  · rintro ⟨i, hd⟩
    obtain ⟨r, hr, -, hc⟩ := encode_spellsItsRow i
    exact ⟨r, hr, encode_of_decode hd ▸ hc⟩

/-- No word is of two rows: the rows differ in a bit that both masks keep. -/
theorem opRow_eq_of_covers {r r' : OpRow} (hr : r ∈ opRows) (hr' : r' ∈ opRows) (hc : r.covers w = true)
    (hc' : r'.covers w = true) : r = r' := by
  have hdisjoint : ∀ r ∈ opRows, ∀ r' ∈ opRows, r.pattern &&& r'.mask = r'.pattern &&& r.mask → r = r' := by decide
  refine hdisjoint r hr r' hr' ?_
  rw [← beq_iff_eq.mp hc, ← beq_iff_eq.mp hc', BitVec.and_assoc, BitVec.and_assoc, BitVec.and_comm r.mask]

theorem filter_covers_eq_singleton {r : OpRow} (hr : r ∈ opRows) (hc : r.covers w = true) :
    opRows.filter (·.covers w) = [r] := by
  have honce : ∀ r ∈ opRows, opRows.filter (· == r) = [r] := by decide
  rw [← honce r hr]
  refine List.filter_congr fun r' hr' => Bool.eq_iff_iff.mpr ?_
  rw [beq_iff_eq]
  exact ⟨fun hc' => opRow_eq_of_covers hr' hr hc' hc, fun e => e ▸ hc⟩

/-- Settles O9: an accepted word is the word of an event, which spells the event's row, and no word is of two rows. -/
theorem everyWordIsOneRowOrIllegal : Obligations.EveryWordIsOneRowOrIllegal := by
  intro w
  cases hd : decode w with
  | ok i =>
    obtain ⟨r, hr, hm, hc⟩ := encode_spellsItsRow i
    rw [encode_of_decode hd] at hc
    exact .inl ⟨i, rfl, by rw [filter_covers_eq_singleton hr hc, List.map_singleton, hm]⟩
  | error e =>
    refine .inr ⟨⟨e, rfl⟩, List.filter_eq_nil_iff.mpr fun r hr hc => ?_⟩
    obtain ⟨i, hi⟩ := exists_decode_of_covers hr hc
    exact absurd (hd.symm.trans hi) (by simp)

end Sys2Proof
end

section
/-! Words that spell no event (30_encoding.md R81, R82). -/
namespace Sys2Proof.Machine

variable {w : EventWord}

theorem exists_decode_error (hw : wordWellFormed w = false) : ∃ e, decode w = .error e := by
  cases hd : decode w with
  | ok i => simp [wordWellFormed_iff.mpr ⟨i, hd⟩] at hw
  | error e => exact ⟨e, rfl⟩

theorem wordWellFormed_eq_false_of_reservedOp (hop : w.extractLsb 31 28 ∈ [0x0#4, 0xC#4, 0xD#4, 0xE#4, 0xF#4]) :
    wordWellFormed w = false := by
  rw [← Bool.not_eq_true, wordWellFormed_iff]
  rintro ⟨i, hd⟩
  simp only [List.mem_cons, List.not_mem_nil, or_false] at hop
  obtain hop | hop | hop | hop | hop := hop <;> simp [decode, hop] at hd

theorem resultOfWord_of_decode_error {e : IllegalWord} (hd : decode w = .error e) (s : State) :
    resultOfWord w s = .refuse .illegalWord := by
  simp [resultOfWord, hd]

/-- Settles O4: a word of no row does not decode, and no row has a reserved OP. -/
theorem illegalWordIsRefusedEverywhere : Obligations.IllegalWordIsRefusedEverywhere := by
  refine fun s w rest hp => ⟨fun hw => ?_, wordWellFormed_eq_false_of_reservedOp⟩
  obtain ⟨e, hd⟩ := exists_decode_error hw
  refine ⟨resultOfWord_of_decode_error hd s, ?_⟩
  rw [step_of_cons hp, deliver, deliverWord_eq_settle, resultOfWord_of_decode_error hd]
  rfl

end Sys2Proof.Machine
end

section
/-! The pseudo-event BXFORM_ID (30_encoding.md R87): a poll that grants, an XRD and an XWR per element, and BDONE. -/
namespace Sys2Proof.Machine

variable {s t : State} {n k : Nat}

theorem runTrace_append {es fs : List TraceEvent} (h : runTrace es s = .next t) :
    runTrace (es ++ fs) s = runTrace fs t := by
  induction es generalizing s with
  | nil => cases h; rfl
  | cons e es ih =>
    simp only [List.cons_append, runTrace] at h ⊢
    cases he : exec (e.resolve s) s with
    | next s' => rw [he] at h; exact ih h
    | fault r => rw [he] at h; cases h
    | refused r => rw [he] at h; cases h

theorem runTrace_cons (e : TraceEvent) {es : List TraceEvent} (h : exec (e.resolve s) s = .next t) :
    runTrace (e :: es) s = runTrace es t := by
  simp only [runTrace, h]

/-! ## The events that are admitted -/

theorem inMode_of_running {m : Mode} {body : Result} (hc : s.cst = .running) (hm : s.mode = m) :
    inMode m s body = body := by
  simp [inMode, whenRunning, hc, hm]

theorem exec_bpoll_of_ready (hc : s.cst = .running) (hm : s.mode = .blockDMA) (hf : s.fg = .bPoll)
    (hr : s.capW = s.capR) : exec .bpoll s = .next s.grant := by
  simp [exec_eq_settle, resultOf, bpollRule, inMode_of_running hc hm, hf, State.bufferReady, hr, settle]

/-- A grant is outstanding in BlockDMA mode, and the buffer length is `n` (45_block_consumer.md R202). -/
structure State.Granted (s : State) (n : Nat) : Prop where
  running : s.cst = .running
  blockDMA : s.mode = .blockDMA
  busy : s.fg = .bBusy
  length : s.bufLen = some n

theorem State.Granted.engineAccess {idx : BitVec 7} {body : Result} (hg : s.Granted n) (hi : idx.toNat < n) :
    engineAccess s idx body = body := by
  simp [Machine.engineAccess, inMode_of_running hg.running hg.blockDMA, hg.busy, withLen, hg.length, hi]

theorem State.Granted.exec_xrd {idx : BitVec 7} (hg : s.Granted n) (hi : idx.toNat < n) (sel : Sel) :
    exec (.xrd sel idx) s = .next { s with rdata := s.memRead (s.readAddr sel idx) } := by
  rw [exec_eq_settle, resultOf, xrdRule, hg.engineAccess hi, settle]

theorem State.Granted.exec_xwr {idx : BitVec 7} (hg : s.Granted n) (hi : idx.toNat < n) (v : Sample) :
    exec (.xwr idx v) s = .next (s.memWrite (s.writeAddr idx) v) := by
  rw [exec_eq_settle, resultOf, xwrRule, hg.engineAccess hi, settle]

theorem State.Granted.exec_bdone (hg : s.Granted n) : exec .bdone s = .next s.publish := by
  simp [exec_eq_settle, resultOf, bdoneRule, inMode_of_running hg.running hg.blockDMA, hg.busy, settle]

/-! ## The addresses -/

theorem pbAddr_injective (l : Label) : Function.Injective (pbAddr l) := fun _ _ h =>
  (BitVec.append_right_inj _).mp h

theorem capAddr_ne_pbAddr (l l' : Label) (i j : BitVec 7) : capAddr l i ≠ pbAddr l' j := by
  intro h
  have hb := congrArg (BitVec.extractLsb' 7 2) h
  simp only [capAddr, pbAddr, bufAddr] at hb
  rw [BitVec.extractLsb'_append_eq_left, BitVec.extractLsb'_append_eq_left] at hb
  cases l <;> cases l' <;> cases hb

theorem toNat_ofNat_of_lt_bufLen (hn : s.bufLen = some n) (hk : k < n) : (BitVec.ofNat 7 k).toNat = k := by
  have hle := decodeN_le hn
  exact (BitVec.toNat_ofNat k 7).trans (Nat.mod_eq_of_lt (by omega))

/-! ## The copy -/

/-- The element at an index of the granted capture buffer is read, and written to the playback buffer. -/
def State.copyOne (s : State) (idx : BitVec 7) : State :=
  let v := s.memRead (capAddr s.blbl idx)
  { s with rdata := v }.memWrite (pbAddr s.blbl idx) v

theorem State.copyOne_wf (hw : memWf s.mem = true) (idx : BitVec 7) : memWf (s.copyOne idx).mem = true :=
  State.memWrite_wf (s := { s with rdata := _ }) hw _ _

theorem State.memRead_copyOne (hw : memWf s.mem = true) (idx : BitVec 7) (a : BufAddr) :
    (s.copyOne idx).memRead a =
      if pbAddr s.blbl idx = a then s.memRead (capAddr s.blbl idx) else s.memRead a :=
  State.memRead_memWrite (s := { s with rdata := _ }) hw _ a _

/-- The two events of BXFORM_ID that copy an element. -/
def copyElement (k : Nat) : List TraceEvent :=
  [.event (.xrd .cap (BitVec.ofNat 7 k)), .xwrRdata (BitVec.ofNat 7 k)]

theorem runTrace_copyElement (hg : s.Granted n) (hk : k < n) :
    runTrace (copyElement k) s = .next (s.copyOne (BitVec.ofNat 7 k)) := by
  have hi : (BitVec.ofNat 7 k).toNat < n := (toNat_ofNat_of_lt_bufLen hg.length hk).symm ▸ hk
  have hg' : State.Granted { s with rdata := s.memRead (s.readAddr .cap (BitVec.ofNat 7 k)) } n := { hg with }
  exact (runTrace_cons (.event _) (hg.exec_xrd hi .cap)).trans
    (runTrace_cons (.xwrRdata _) (hg'.exec_xwr hi _))

/-- `t` is `s` after the first `k` elements of the granted capture buffer are copied. -/
structure CopiedBelow (k : Nat) (s t : State) : Prop where
  frame : t = { s with mem := t.mem, rdata := t.rdata }
  memory : memWf t.mem = true
  copied : ∀ j, j < k → t.memRead (pbAddr s.blbl (BitVec.ofNat 7 j)) = s.memRead (capAddr s.blbl (BitVec.ofNat 7 j))
  kept : ∀ a, (∀ j, j < k → a ≠ pbAddr s.blbl (BitVec.ofNat 7 j)) → t.memRead a = s.memRead a

theorem CopiedBelow.blbl (h : CopiedBelow k s t) : t.blbl = s.blbl := congrArg (·.blbl) h.frame

theorem CopiedBelow.granted (h : CopiedBelow k s t) (hg : s.Granted n) : t.Granted n := by
  rw [h.frame]
  exact { hg with }

theorem CopiedBelow.succ (h : CopiedBelow k s t) (hn : s.bufLen = some n) (hk : k < n) :
    CopiedBelow (k + 1) s (t.copyOne (BitVec.ofNat 7 k)) where
  frame := by rw [h.frame]; rfl
  memory := State.copyOne_wf h.memory _
  copied j hj := by
    rw [State.memRead_copyOne h.memory, h.blbl]
    obtain hj | rfl := Nat.lt_succ_iff_lt_or_eq.mp hj
    · have hne : pbAddr s.blbl (BitVec.ofNat 7 k) ≠ pbAddr s.blbl (BitVec.ofNat 7 j) := fun he => by
        have hkj := congrArg BitVec.toNat (pbAddr_injective _ he)
        rw [toNat_ofNat_of_lt_bufLen hn hk, toNat_ofNat_of_lt_bufLen hn (hj.trans hk)] at hkj
        exact hj.ne' hkj
      rw [if_neg hne, h.copied j hj]
    · rw [if_pos rfl, h.kept _ fun _ _ => capAddr_ne_pbAddr _ _ _ _]
  kept a ha := by
    have hk := Nat.lt_succ_self k
    rw [State.memRead_copyOne h.memory, h.blbl, if_neg (ha k hk).symm, h.kept a fun j hj => ha j (hj.trans hk)]

theorem exists_runTrace_copyElements (hg : s.Granted n) (hw : memWf s.mem = true) (hk : k ≤ n) :
    ∃ t, runTrace ((List.range k).flatMap copyElement) s = .next t ∧ CopiedBelow k s t := by
  induction k with
  | zero => exact ⟨s, rfl, rfl, hw, nofun, fun _ _ => rfl⟩
  | succ k ih =>
    obtain ⟨t, ht, hcopied⟩ := ih (Nat.le_of_succ_le hk)
    refine ⟨_, ?_, hcopied.succ hg.length hk⟩
    rw [List.range_succ, List.flatMap_append, List.flatMap_singleton, runTrace_append ht,
      runTrace_copyElement (hcopied.granted hg) hk]

/-- Settles O38: the grant, the copy of all `n` elements, and the return that publishes them. -/
theorem identityTransformCopiesTheBuffer : Obligations.IdentityTransformCopiesTheBuffer := by
  intro s n hc hm hf hr hn hw
  have hg : s.grant.Granted n := ⟨hc, hm, rfl, hn⟩
  obtain ⟨t, ht, hcopied⟩ := exists_runTrace_copyElements hg hw le_rfl
  refine ⟨t.publish, ?_, ?_, hcopied.kept, hcopied.blbl, hcopied.blbl, rfl, congrArg (·.trace) hcopied.frame⟩
  · calc runTrace (Pseudo.bxformId.expand n) s
        = runTrace ((List.range n).flatMap copyElement ++ [TraceEvent.event .bdone]) s.grant :=
          runTrace_cons (.event .bpoll) (exec_bpoll_of_ready hc hm hf hr)
      _ = runTrace [TraceEvent.event .bdone] t := runTrace_append ht
      _ = .next t.publish := runTrace_cons (.event .bdone) (hcopied.granted hg).exec_bdone
  · exact List.map_congr_left fun j hj => hcopied.copied j (List.mem_range.mp hj)

end Sys2Proof.Machine
end

section
/-! The admission table (30_encoding.md R85) against the events' own rules, row by row. -/
namespace Sys2Proof.Machine

variable {s : State} {c : Column} {b body : Result}

/-- The rule of the event applies: it is neither ignored nor refused. -/
def Result.Admitted : Result → Prop
  | .ignored | .refuse _ => False
  | .ok _ | .fatal _ | .fault _ | .undefined _ => True

theorem Result.Admitted.ne (h : b.Admitted) : b ≠ .ignored ∧ ∀ r, b ≠ .refuse r :=
  ⟨fun e => by rwa [e] at h, fun r e => by rwa [e] at h⟩

theorem Result.Admitted.ite {p : Prop} [Decidable p] {a : Result} (ha : a.Admitted) (hb : b.Admitted) :
    (if p then a else b).Admitted := by
  split_ifs
  · exact ha
  · exact hb

/-- What the table's entry says of an event's outcome. -/
def Admission.Agrees : Admission → Result → Prop
  | .applies, x => x.Admitted
  | .ignored, x => x = .ignored
  | .refuse r, x => x = .refuse r

theorem withLen_admitted {body : Nat → Result} (hb : ∀ n, (body n).Admitted) : (withLen s body).Admitted := by
  obtain ⟨n, -, e⟩ | ⟨-, e⟩ := withLen_cases s body <;> rw [e]
  · exact hb n
  · trivial

theorem appliesIf_agrees {k : Bool} {p : Prop} [Decidable p] {r : RefuseReason} (hk : k = true ↔ ¬p)
    (hb : b.Admitted) : (appliesIf k r).Agrees (if p then .refuse r else b) := by
  by_cases hp : p
  · rw [if_pos hp, appliesIf, if_neg (mt hk.mp (not_not.mpr hp))]
    rfl
  · rw [if_neg hp, appliesIf, if_pos (hk.mpr hp)]
    exact hb

/-- What the column says of CST and MODE. -/
theorem State.column_cases (h : s.column = some c) :
    (s.cst = .unconf ∧ c = .unconf) ∨ (s.cst = .configured ∧ c = .configured) ∨ (s.cst = .fatal ∧ c = .fatal) ∨
      (s.cst = .running ∧ ((s.mode = .polling ∧ c = .polling) ∨ (s.mode = .interrupt ∧ c = .interrupt) ∨
        (s.mode = .blockDMA ∧ c = .blockDMA))) := by
  revert h
  unfold State.column
  cases s.cst <;> cases s.mode <;> simp [eq_comm]

/-! ## The rows -/

/-- A row of a run-time event agrees with its rule if it does in each mode. -/
theorem whenRunning_agrees {row : Column → Admission} (hu : row .unconf = .refuse .notRunning)
    (hn : row .configured = .refuse .notRunning) (hf : row .fatal = .ignored)
    (hp : s.mode = .polling → (row .polling).Agrees body) (hi : s.mode = .interrupt → (row .interrupt).Agrees body)
    (hb : s.mode = .blockDMA → (row .blockDMA).Agrees body) (h : s.column = some c) :
    (row c).Agrees (whenRunning s body) := by
  obtain ⟨hc, rfl⟩ | ⟨hc, rfl⟩ | ⟨hc, rfl⟩ | ⟨hc, hm⟩ := State.column_cases h <;> simp only [whenRunning, hc]
  · rw [hu]; rfl
  · rw [hn]; rfl
  · rw [hf]; rfl
  · obtain ⟨hm, rfl⟩ | ⟨hm, rfl⟩ | ⟨hm, rfl⟩ := hm
    · exact hp hm
    · exact hi hm
    · exact hb hm

theorem pollingRow_agrees {f : Foreground} (hb : b.Admitted) (h : s.column = some c) :
    (pollingRow f c s).Agrees (inMode .polling s (if s.fg ≠ f then .refuse .outOfOrder else b)) := by
  refine whenRunning_agrees (row := (pollingRow f · s)) rfl rfl rfl (fun hm => ?_) (fun hm => ?_) (fun hm => ?_) h
  · rw [if_pos hm]; exact appliesIf_agrees (by simp) hb
  · exact if_neg (by simp [hm])
  · exact if_neg (by simp [hm])

theorem engineRow_agrees (hb : b.Admitted) (h : s.column = some c) :
    (engineRow c s).Agrees (inMode .blockDMA s (if s.fg ≠ .bBusy then .refuse .noInvocation else b)) := by
  refine whenRunning_agrees (row := (engineRow · s)) rfl rfl rfl (fun hm => ?_) (fun hm => ?_) (fun hm => ?_) h
  · exact if_neg (by simp [hm])
  · exact if_neg (by simp [hm])
  · rw [if_pos hm]; exact appliesIf_agrees (by simp) hb

theorem engineAccess_agrees {idx : BitVec 7} (hb : b.Admitted) (h : s.column = some c) :
    (engineRow c s).Agrees (engineAccess s idx b) :=
  engineRow_agrees (withLen_admitted fun _ => .ite trivial hb) h

theorem bpollRule_agrees (h : s.column = some c) : (admission .bpoll c s).Agrees (bpollRule s) := by
  refine whenRunning_agrees (row := (admission .bpoll · s)) rfl rfl rfl (fun hm => ?_) (fun hm => ?_) (fun hm => ?_) h
  · exact if_neg (by simp [hm])
  · exact if_neg (by simp [hm])
  · rw [if_pos hm]; exact appliesIf_agrees (by simp) (.ite trivial trivial)

theorem profilerRow_agrees (hb : b.Admitted) (h : s.column = some c) :
    (profilerRow c).Agrees (whenIdle s b) := by
  obtain ⟨hc, rfl⟩ | ⟨hc, rfl⟩ | ⟨hc, rfl⟩ | ⟨hc, hm⟩ := State.column_cases h <;> simp only [whenIdle, hc]
  · exact hb
  · exact hb
  · rfl
  · obtain ⟨-, rfl⟩ | ⟨-, rfl⟩ | ⟨-, rfl⟩ := hm <;> rfl

theorem cfgRule_agrees {m : Mode} {r : BitVec 4} {q : BitVec 2} {l : BitVec 3} (h : s.column = some c) :
    (admission (.cfg m r q l) c s).Agrees (cfgRule m r q l s) := by
  obtain ⟨hc, rfl⟩ | ⟨hc, rfl⟩ | ⟨hc, rfl⟩ | ⟨hc, hm⟩ := State.column_cases h <;>
    simp only [cfgRule, hc, reduceCtorEq, if_true, if_false, ne_eq, not_true, not_false_eq_true]
  · exact .ite trivial (.ite trivial (.ite trivial trivial))
  · rfl
  · rfl
  · obtain ⟨-, rfl⟩ | ⟨-, rfl⟩ | ⟨-, rfl⟩ := hm <;> rfl

theorem runRule_agrees (h : s.column = some c) : (admission .run c s).Agrees (runRule s) := by
  obtain ⟨hc, rfl⟩ | ⟨hc, rfl⟩ | ⟨hc, rfl⟩ | ⟨hc, hm⟩ := State.column_cases h <;>
    simp only [runRule, hc, reduceCtorEq, if_true, if_false]
  · exact .ite trivial trivial
  · exact .ite trivial trivial
  · rfl
  · obtain ⟨-, rfl⟩ | ⟨-, rfl⟩ | ⟨-, rfl⟩ := hm <;> rfl

theorem tickRule_agrees {limit : Option Nat} {v : Sample} (h : s.column = some c) :
    (admission (.tick v) c s).Agrees (tickRule limit v s) := by
  refine whenRunning_agrees (row := (admission (.tick v) · s)) rfl rfl rfl
    (fun hm => ?_) (fun hm => ?_) (fun hm => ?_) h <;> simp only [hm]
  · rfl
  · exact .ite trivial trivial
  · exact withLen_admitted fun _ => .ite trivial trivial

theorem sdoneRule_agrees {y : Sample} (h : s.column = some c) :
    (admission (.sdone y) c s).Agrees (sdoneRule y s) := by
  refine whenRunning_agrees (row := (admission (.sdone y) · s)) rfl rfl rfl
    (fun hm => ?_) (fun hm => ?_) (fun hm => ?_) h <;> simp only [hm]
  · exact appliesIf_agrees (by simp) trivial
  · exact appliesIf_agrees (by simp) trivial
  · rfl

theorem admission_agrees (i : Instr) (h : s.column = some c) : (admission i c s).Agrees (resultOf i s) := by
  cases i with
  | cfg m r q l => exact cfgRule_agrees h
  | run => exact runRule_agrees h
  | tick v => exact tickRule_agrees h
  | bpoll => exact bpollRule_agrees h
  | ptrig => exact pollingRow_agrees trivial h
  | cdone x => exact pollingRow_agrees trivial h
  | sdone y => exact sdoneRule_agrees h
  | xrd sel idx => exact engineAccess_agrees trivial h
  | xwr idx v => exact engineAccess_agrees trivial h
  | bdone => exact engineRow_agrees trivial h
  | measS => exact profilerRow_agrees trivial h
  | measB => exact profilerRow_agrees (.ite trivial trivial) h

/-- Settles O51: each entry says of its event's outcome what the event's rule answers, and `exec` settles the outcome. -/
theorem outcomesAgreeWithTheAdmissionTable : Obligations.OutcomesAgreeWithTheAdmissionTable := by
  intro i s c h
  have ha := admission_agrees i h
  refine ⟨fun e => ?_, fun r e => ?_, fun e => ?_⟩ <;> rw [e] at ha
  · exact ⟨ha, by rw [exec_eq_settle, show resultOf i s = .ignored from ha, settle]⟩
  · exact ⟨ha, by rw [exec_eq_settle, show resultOf i s = .refuse r from ha, settle, State.markRefused]⟩
  · exact ha.ne

end Sys2Proof.Machine
end

section
/-! While RUNNING: what each mode's events can touch (41_control.md R107, R108). -/
namespace Sys2Proof.Machine

variable {i : Instr} {s t : State} {q : FaultReason}

theorem whenRunning_fault {body : Result} (h : whenRunning s body = .fault q) : body = .fault q := by
  obtain ⟨-, e⟩ | ⟨-, e⟩ | ⟨-, e⟩ := whenRunning_cases s body <;> rw [e] at h
  · exact h
  · cases h
  · cases h

theorem inMode_fault {m : Mode} {body : Result} (h : inMode m s body = .fault q) : s.mode = m ∧ body = .fault q := by
  have hb := whenRunning_fault h
  split_ifs at hb with hm
  exact ⟨hm, hb⟩

theorem whenIdle_ne_fault {body : Result} (h : body ≠ .fault q) : whenIdle s body ≠ .fault q := by
  unfold whenIdle
  cases s.cst <;> simp [h]

/-- The spec's two faults are those of a nested invocation and of a buffer index (60_exceptions.md R262). -/
theorem resultOf_fault (h : resultOf i s = .fault q) : s.mode = .interrupt ∨ s.mode = .blockDMA := by
  cases i with
  | cfg m r c l => simp only [resultOf, cfgRule] at h; split_ifs at h
  | run => simp only [resultOf, runRule] at h; split_ifs at h
  | tick v =>
    have hb := whenRunning_fault h
    cases hm : s.mode <;> rw [hm] at hb
    · cases hb
    · exact .inl rfl
    · exact .inr rfl
    · cases hb
  | sdone y =>
    have hb := whenRunning_fault h
    cases hm : s.mode <;> rw [hm] at hb
    · simp only [sdonePolling] at hb; split_ifs at hb
    · exact .inl rfl
    · exact .inr rfl
    · cases hb
  | ptrig => obtain ⟨-, hb⟩ := inMode_fault h; split_ifs at hb
  | cdone x => obtain ⟨-, hb⟩ := inMode_fault h; split_ifs at hb
  | bpoll => exact .inr (inMode_fault h).1
  | xrd sel idx => exact .inr (inMode_fault h).1
  | xwr idx v => exact .inr (inMode_fault h).1
  | bdone => exact .inr (inMode_fault h).1
  | measS => exact absurd h (whenIdle_ne_fault (by simp))
  | measB => exact absurd h (whenIdle_ne_fault (by split_ifs <;> simp))

/-- From `s` to `t` nothing changed but what belongs to a run of the mode (41_control.md R108); no event runs with
MODE = NONE. -/
def ModeFootprint (s t : State) : Mode → Prop
  | .polling => t = { s with fg := t.fg, psample := t.psample, trace := t.trace, refused := t.refused }
  | .interrupt =>
    t = { s with
      guard := t.guard, istack := t.istack, ovr := t.ovr, trace := t.trace, refused := t.refused,
      faulted := t.faulted }
  | .blockDMA =>
    t = { s with
      mem := t.mem, capW := t.capW, capR := t.capR, pbW := t.pbW, pbR := t.pbR, fillIdx := t.fillIdx,
      drainIdx := t.drainIdx, fg := t.fg, blbl := t.blbl, rdata := t.rdata, capRace := t.capRace,
      pbRace := t.pbRace, trace := t.trace, refused := t.refused, faulted := t.faulted }
  | .none => t = { s with refused := t.refused }

theorem ModeFootprint.refl (s : State) (m : Mode) : ModeFootprint s s m := by cases m <;> rfl

theorem ModeFootprint.markRefused (s : State) (m : Mode) : ModeFootprint s s.markRefused m := by cases m <;> rfl

theorem ModeFootprint.cst_eq {m : Mode} (h : ModeFootprint s t m) : t.cst = s.cst := by
  cases m <;> exact congrArg (·.cst) h

theorem resultOf_ok_footprint (hc : s.cst = .running) (h : resultOf i s = .ok t) : ModeFootprint s t s.mode := by
  cases i with
  | cfg m r c l => exact absurd (cfgRule_ok h).1 (by simp [hc])
  | run => exact absurd (runRule_ok h).1 (by simp [hc])
  | tick v =>
    obtain ⟨-, ⟨hm, -, rfl⟩ | ⟨hm, n, -, -, -, rfl⟩⟩ := tickRule_ok h <;> rw [hm]
    · rfl
    · simp only [ModeFootprint, State.capturePhase_eq, State.drainPhase_eq]
  | bpoll => obtain ⟨-, hm, -, ⟨-, rfl⟩ | ⟨-, rfl⟩⟩ := bpollRule_ok h <;> rw [hm] <;> rfl
  | ptrig => obtain ⟨-, hm, -, rfl⟩ := ptrigRule_ok h; rw [hm]; rfl
  | cdone x => obtain ⟨-, hm, -, rfl⟩ := cdoneRule_ok h; rw [hm]; rfl
  | sdone y => obtain ⟨-, ⟨hm, -, rfl⟩ | ⟨hm, -, rfl⟩⟩ := sdoneRule_ok h <;> rw [hm] <;> rfl
  | xrd sel idx => obtain ⟨-, hm, -, -, ht⟩ := xrdRule_ok h; rw [hm, ht]; rfl
  | xwr idx v => obtain ⟨-, hm, -, -, rfl⟩ := xwrRule_ok h; rw [hm]; rfl
  | bdone => obtain ⟨-, hm, -, rfl⟩ := bdoneRule_ok h; rw [hm]; rfl
  | measS => exact absurd (measSampleRule_ok h).1 (by simp [hc])
  | measB => exact absurd (measBlockRule_ok h).1 (by simp [hc])

theorem resultOf_ne_fatal_of_running (hc : s.cst = .running) (c : FatalCause) : resultOf i s ≠ .fatal c := fun h => by
  simpa [hc] using resultOf_fatal h

theorem exec_footprint (hc : s.cst = .running) (h : exec i s = .next t) : ModeFootprint s t s.mode := by
  rw [exec_eq_settle] at h
  obtain e | ⟨-, rfl⟩ | ⟨c, e, -⟩ | ⟨q, -, rfl⟩ | ⟨q, e, rfl⟩ := settle_next h
  · exact resultOf_ok_footprint hc e
  · exact .refl t _
  · exact absurd e (resultOf_ne_fatal_of_running hc c)
  · exact .markRefused s _
  · obtain hm | hm := resultOf_fault e <;> rw [hm] <;> rfl

theorem exec_running (hc : s.cst = .running) (h : exec i s = .next t) : t.cst = .running :=
  (exec_footprint hc h).cst_eq.trans hc

/-- Settles O48: CST is in no mode's footprint, Fatal is raised only before the run, and a wait or a refused word leaves
CST too. -/
theorem runningEndsOnlyByReset : Obligations.RunningEndsOnlyByReset := by
  intro s hc
  refine ⟨fun i t h => exec_running hc h, fun i c => resultOf_ne_fatal_of_running hc c, fun t h hne => ?_⟩
  obtain hp | hp | ⟨w, i, -, -, he⟩ | ht := step_next_input h
  · exact .inl hp
  · exact .inr hp
  · exact absurd (exec_running (s := s.takeInput) hc he) hne
  · exact absurd ((congrArg (·.cst) ht).trans hc) hne

/-- Settles O52, by the footprint of the mode. -/
theorem eachModeTouchesOnlyItsState : Obligations.EachModeTouchesOnlyItsState := by
  intro i s t hc h
  have hf := exec_footprint hc h
  refine ⟨fun hm => ?_, fun hm => ?_, fun hm => ?_⟩ <;> rw [hm] at hf <;> exact hf

end Sys2Proof.Machine
end

section
/-! The clear port as its loop (41_control.md R100, 20_memory.md R53): after `k` writes nothing is listed below `k`. -/
namespace Sys2Proof.Machine

variable {k : Nat}

theorem memStore_unlisted_wfFrom {m : List (Nat × Sample)} (h : memWfFrom k m = true) :
    memWfFrom (k + 1) (memStore m k unlisted) = true := by
  cases m with
  | nil => rfl
  | cons e m =>
    obtain ⟨j, x⟩ := e
    simp only [memWfFrom, Bool.and_eq_true, decide_eq_true_eq] at h
    obtain ⟨⟨⟨hle, hj⟩, hx⟩, hm⟩ := h
    obtain rfl | hlt := hle.eq_or_lt
    · simpa [memStore] using hm
    · simp [memStore, memWfFrom, hlt, hj, hx, hm, Nat.succ_le_of_lt hlt]

theorem eq_nil_of_memWfFrom_bufSpace {m : List (Nat × Sample)} (h : memWfFrom bufSpace m = true) : m = [] := by
  cases m with
  | nil => rfl
  | cons e m =>
    simp only [memWfFrom, Bool.and_eq_true, decide_eq_true_eq] at h
    omega

theorem State.memZeroBelow_frame (s : State) (k : Nat) :
    s.memZeroBelow k = { s with mem := (s.memZeroBelow k).mem } := by
  induction k with
  | zero => rfl
  | succ k ih => rw [State.memZeroBelow, ih]; rfl

theorem State.memZeroBelow_wfFrom {s : State} (hw : memWf s.mem = true) (hk : k ≤ bufSpace) :
    memWfFrom k (s.memZeroBelow k).mem = true := by
  induction k with
  | zero => exact hw
  | succ k ih =>
    have ha : (BitVec.ofNat 9 k).toNat = k := (BitVec.toNat_ofNat k 9).trans (Nat.mod_eq_of_lt hk)
    rw [State.memZeroBelow, State.memWrite_mem, ha]
    exact memStore_unlisted_wfFrom (ih (Nat.le_of_succ_le hk))

/-- Settles O56: after the last write nothing is listed below 512, and a canonical memory lists nothing above. -/
theorem clearLoopEmptiesTheMemory : Obligations.ClearLoopEmptiesTheMemory := by
  intro s hw
  have hnil : (s.memZeroBelow 512).mem = [] := eq_nil_of_memWfFrom_bufSpace (State.memZeroBelow_wfFrom hw le_rfl)
  rw [State.memZeroBelow_frame, hnil]

end Sys2Proof.Machine
end

section
/-! An event's step from its rule's outcome, and the answers of the shared checks (60_exceptions.md R250, R252, R260,
R261; 30_encoding.md R85). -/
namespace Sys2Proof.Machine

variable {i : Instr} {s t : State} {body : Result}

theorem exec_of_ok (h : resultOf i s = .ok t) : exec i s = .next t := by
  rw [exec_eq_settle, h, settle]

theorem exec_of_ignored (h : resultOf i s = .ignored) : exec i s = .next s := by
  rw [exec_eq_settle, h, settle]

theorem refuses_of_refuse {r : RefuseReason} (h : resultOf i s = .refuse r) : Refuses i s r :=
  ⟨h, by rw [exec_eq_settle, h, settle, State.markRefused]⟩

theorem raisesFatal_of_fatal {c : FatalCause} (h : resultOf i s = .fatal c) : RaisesFatal i s (causeCode c) := by
  rw [RaisesFatal, exec_eq_settle, h, settle, State.raiseFatal]

theorem whenRunning_of_running (hc : s.cst = .running) : whenRunning s body = body := by
  simp [whenRunning, hc]

theorem whenRunning_of_fatal (hc : s.cst = .fatal) : whenRunning s body = .ignored := by
  simp [whenRunning, hc]

theorem whenRunning_of_idle (hc : s.cst = .unconf ∨ s.cst = .configured) :
    whenRunning s body = .refuse .notRunning := by
  obtain hc | hc := hc <;> simp [whenRunning, hc]

end Sys2Proof.Machine
end

section
/-! CFG and RUN (41_control.md R100 to R104). -/
namespace Sys2Proof.Machine

variable {s : State} {m : Mode} {r : BitVec 4} {c : BitVec 2} {l : BitVec 3}

theorem validSrc_iff : validSrc c = true ↔ c.toNat ≤ 1 := by
  revert c
  decide

theorem validRate_iff : validRate r = true ↔ r.toNat ≤ 8 := decide_eq_true_iff

theorem validLen_iff : validLen l = true ↔ 1 ≤ l.toNat ∧ l.toNat ≤ 5 := by
  simp [validLen]

theorem cfgRule_of_fatal (hc : s.cst = .fatal) : cfgRule m r c l s = .ignored := if_pos hc

theorem cfgRule_of_configured_or_running (hc : s.cst = .configured ∨ s.cst = .running) :
    cfgRule m r c l s = .refuse .reconfigure := by
  obtain hc | hc := hc <;> simp [cfgRule, hc]

/-- In UNCONF only the three checks decide, in the order SRC, LEN, RATE (41_control.md R101). -/
theorem cfgRule_of_unconf (hc : s.cst = .unconf) :
    cfgRule m r c l s =
      if c.toNat ≤ 1 then
        if m = .blockDMA → 1 ≤ l.toNat ∧ l.toNat ≤ 5 then
          if r.toNat ≤ 8 then .ok (s.configure m r c l) else .fatal .rateIndex
        else .fatal .bufferLength
      else .fatal .inputSource := by
  simp only [cfgRule, hc, reduceCtorEq, if_false, ne_eq, not_true, Bool.not_eq_eq_eq_not, Bool.not_true,
    ← Bool.not_eq_true, validSrc_iff, validRate_iff, validLen_iff, ← Classical.not_imp, ite_not]

/-- Settles O17: CST and the three checks in their order say what the rule answers. -/
theorem cfgFollowsItsRule : Obligations.CfgFollowsItsRule := by
  intro m r c l s
  refine ⟨decode_encode (.cfg m r c l),
    fun hc hsrc hlen hrate => ⟨s.configure m r c l, exec_of_ok ?_, fun _ => rfl, ?_⟩,
    fun hc => exec_of_ignored (cfgRule_of_fatal hc),
    fun hc => refuses_of_refuse (cfgRule_of_configured_or_running hc),
    fun hc hsrc => raisesFatal_of_fatal (c := .inputSource) ?_,
    fun hc hsrc hm hlen => raisesFatal_of_fatal (c := .bufferLength) ?_,
    fun hc hsrc hlen hrate => raisesFatal_of_fatal (c := .rateIndex) ?_⟩
  · rw [resultOf, cfgRule_of_unconf hc, if_pos hsrc, if_pos hlen, if_pos hrate]
  · simp only [State.configure, validLen_iff]; rfl
  · rw [resultOf, cfgRule_of_unconf hc, if_neg (by omega)]
  · rw [resultOf, cfgRule_of_unconf hc, if_pos hsrc, if_neg fun hv => by have := hv hm; omega]
  · rw [resultOf, cfgRule_of_unconf hc, if_pos hsrc, if_pos hlen, if_neg (by omega)]

theorem runRule_of_fatal (hc : s.cst = .fatal) : runRule s = .ignored := if_pos hc

theorem runRule_of_running (hc : s.cst = .running) : runRule s = .refuse .alreadyRunning := by
  simp [runRule, hc]

theorem validMode_iff : validMode m = true ↔ m ≠ .none := by
  cases m <;> simp [validMode]

theorem runRule_of_idle (hc : s.cst = .unconf ∨ s.cst = .configured) :
    runRule s =
      if s.mode = .none then .fatal .modeNone
      else .ok { s.runInit with cst := .running, fg := startForeground s.mode } := by
  obtain hc | hc := hc <;> simp [runRule, hc, ← Bool.not_eq_true, validMode_iff]

/-- Settles O18: CST and MODE say what the rule answers, and FG starts as the mode's loop does. -/
theorem runFollowsItsRule : Obligations.RunFollowsItsRule := by
  intro s
  refine ⟨decode_encode .run, fun hc hm => ⟨startForeground s.mode, exec_of_ok ?_, congrArg startForeground,
      congrArg startForeground, congrArg startForeground⟩,
    fun hc => exec_of_ignored (runRule_of_fatal hc), fun hc => refuses_of_refuse (runRule_of_running hc),
    fun hc hm => raisesFatal_of_fatal (c := .modeNone) ?_⟩
  · rw [resultOf, runRule_of_idle hc, if_neg hm, State.runInit]
  · rw [resultOf, runRule_of_idle hc, if_pos hm]

end Sys2Proof.Machine
end

section
/-! TICK and SDONE, dispatched by mode (41_control.md R105, R106; 42_polling.md R132; 43_interrupt.md R150 to R154). -/
namespace Sys2Proof.Machine

variable {s : State} {limit : Option Nat} {v y : Sample}

theorem tickRule_of_polling (hc : s.cst = .running) (hm : s.mode = .polling) :
    tickRule limit v s = .refuse .noTimingSource := by
  rw [tickRule, whenRunning_of_running hc, hm]

theorem tickRule_of_interrupt (hc : s.cst = .running) (hm : s.mode = .interrupt) :
    tickRule limit v s = tickInterrupt limit v s := by
  rw [tickRule, whenRunning_of_running hc, hm]

theorem tickRule_of_blockDMA (hc : s.cst = .running) (hm : s.mode = .blockDMA) :
    tickRule limit v s = tickBlock v s := by
  rw [tickRule, whenRunning_of_running hc, hm]

/-- The entry of an invocation as one update: OVR records that GUARD was set (43_interrupt.md R150, R151). -/
theorem State.enterInvocation_testAndSetGuard (s : State) (v : Sample) :
    s.testAndSetGuard.enterInvocation v =
      { s with
        ovr := if s.guard then true else s.ovr, guard := true, istack := s.istack ++ [v],
        trace := s.trace ++ [.sreq v] } := by
  cases hg : s.guard <;> simp [State.testAndSetGuard, State.enterInvocation, State.emit, hg]

/-- Settles O19: the dispatch by mode, and in Interrupt mode the bound. -/
theorem tickOutsideBlockDmaFollowsItsRule : Obligations.TickOutsideBlockDmaFollowsItsRule := by
  intro v s
  refine ⟨decode_encode (.tick v), fun hc hm => ?_, fun hc hm hroom => exec_of_ok ?_, fun limit hc hm hfull => ?_,
    exec_eq_settle (.tick v) s, fun hc hm => refuses_of_refuse (tickRule_of_polling hc hm),
    fun hc => refuses_of_refuse (whenRunning_of_idle hc), fun hc => exec_of_ignored (whenRunning_of_fatal hc)⟩
  · rw [exec_eq_settle, resultOf, tickRule_of_blockDMA hc hm]
  · rw [resultOf, tickRule_of_interrupt hc hm, tickInterrupt, if_neg hroom, State.enterInvocation_testAndSetGuard]
  · have hr : tickRule limit v s = .fault .nestOverflow := by
      rw [tickRule_of_interrupt hc hm, tickInterrupt, if_pos hfull]
    exact ⟨hr, by rw [hr, settle, State.markFaulted]⟩

theorem sdoneRule_of_polling (hc : s.cst = .running) (hm : s.mode = .polling) :
    sdoneRule y s = sdonePolling y s := by
  rw [sdoneRule, whenRunning_of_running hc, hm]

theorem sdoneRule_of_interrupt (hc : s.cst = .running) (hm : s.mode = .interrupt) :
    sdoneRule y s = sdoneInterrupt y s := by
  rw [sdoneRule, whenRunning_of_running hc, hm]

theorem sdoneRule_of_blockDMA (hc : s.cst = .running) (hm : s.mode = .blockDMA) :
    sdoneRule y s = .refuse .wrongMode := by
  rw [sdoneRule, whenRunning_of_running hc, hm]

/-- The return as one update: the innermost invocation leaves, and GUARD is cleared (43_interrupt.md R154). -/
theorem State.clearGuard_leaveInvocation {outer : List Sample} {x : Sample} (h : s.istack = outer ++ [x])
    (y : Sample) : (s.leaveInvocation y).clearGuard =
      { s with istack := outer, guard := false, trace := s.trace ++ [.dacOut y] } := by
  simp [State.leaveInvocation, State.clearGuard, State.emit, h]

/-- Settles O22: the dispatch by mode, and in each mode whether an invocation is outstanding. -/
theorem sdoneFollowsItsRule : Obligations.SdoneFollowsItsRule := by
  intro y s
  refine ⟨decode_encode (.sdone y), fun hc hm hf => exec_of_ok ?_, fun hc hm hf => refuses_of_refuse ?_,
    fun x outer hc hm hs => exec_of_ok ?_, fun hc hm hs => refuses_of_refuse ?_,
    fun hc hm => refuses_of_refuse (sdoneRule_of_blockDMA hc hm),
    fun hc => refuses_of_refuse (whenRunning_of_idle hc), fun hc => exec_of_ignored (whenRunning_of_fatal hc)⟩
  · rw [resultOf, sdoneRule_of_polling hc hm, sdonePolling, if_neg (not_not.mpr hf)]; rfl
  · rw [resultOf, sdoneRule_of_polling hc hm, sdonePolling, if_pos hf]
  · rw [resultOf, sdoneRule_of_interrupt hc hm, sdoneInterrupt, if_neg (by simp [hs]),
      State.clearGuard_leaveInvocation hs]
  · rw [resultOf, sdoneRule_of_interrupt hc hm, sdoneInterrupt, if_pos hs]

end Sys2Proof.Machine
end

section
/-! PTRIG and CDONE (42_polling.md R130, R131). -/
namespace Sys2Proof.Machine

variable {s : State}

theorem inMode_of_ne {m : Mode} {body : Result} (hc : s.cst = .running) (hm : s.mode ≠ m) :
    inMode m s body = .refuse .wrongMode := by
  rw [inMode, whenRunning_of_running hc, if_neg hm]

/-- Settles O23: CST, MODE and FG say what the rule answers. -/
theorem ptrigFollowsItsRule : Obligations.PtrigFollowsItsRule := by
  intro s
  refine ⟨decode_encode .ptrig, fun hc hm hf => exec_of_ok ?_, fun hc => exec_of_ignored (whenRunning_of_fatal hc),
    fun hc => refuses_of_refuse (whenRunning_of_idle hc), fun hc hm => refuses_of_refuse (inMode_of_ne hc hm),
    fun hc hm hf => refuses_of_refuse ?_⟩
  · rw [resultOf, ptrigRule, inMode_of_running hc hm, if_neg (not_not.mpr hf)]; rfl
  · rw [resultOf, ptrigRule, inMode_of_running hc hm, if_pos hf]

/-- Settles O24: CST, MODE and FG say what the rule answers. -/
theorem cdoneFollowsItsRule : Obligations.CdoneFollowsItsRule := by
  intro x s
  refine ⟨decode_encode (.cdone x), fun hc hm hf => exec_of_ok ?_,
    fun hc => exec_of_ignored (whenRunning_of_fatal hc), fun hc => refuses_of_refuse (whenRunning_of_idle hc),
    fun hc hm => refuses_of_refuse (inMode_of_ne hc hm), fun hc hm hf => refuses_of_refuse ?_⟩
  · rw [resultOf, cdoneRule, inMode_of_running hc hm, if_neg (not_not.mpr hf)]; rfl
  · rw [resultOf, cdoneRule, inMode_of_running hc hm, if_pos hf]

end Sys2Proof.Machine
end

section
/-! A Polling run is whole rounds and the part of a round that FG names (42_polling.md R133). -/
namespace Sys2Proof.Machine

variable {i : Instr} {s t u : State}

/-- What every event keeps holds after any sequence of events. -/
theorem execAll_induction {P : State → Prop} (hstep : ∀ {i s t}, P s → exec i s = .next t → P t) {is : List Instr}
    (hs : P s) (h : execAll is s = .next t) : P t := by
  induction is generalizing s with
  | nil => cases h; exact hs
  | cons i is ih =>
    rw [execAll] at h
    cases he : exec i s with
    | next s' => rw [he] at h; exact ih (hstep hs he) h
    | fault r => rw [he] at h; cases h
    | refused r => rw [he] at h; cases h

/-- The three events that have an effect in a Polling run, each at its own value of FG (42_polling.md R130 to R132). -/
theorem resultOf_ok_polling (hc : s.cst = .running) (hm : s.mode = .polling) (h : resultOf i s = .ok t) :
    (s.fg = .pTrig ∧ t = (s.emit (.convStart s.src)).setFg .pConv) ∨
      (s.fg = .pConv ∧ ∃ x, t = s.fetchSample x) ∨
      (s.fg = .pXf ∧ ∃ y, t = (s.emit (.dacOut y)).setFg .pTrig) := by
  cases i with
  | ptrig => obtain ⟨-, -, hf, ht⟩ := ptrigRule_ok h; exact .inl ⟨hf, ht⟩
  | cdone x => obtain ⟨-, -, hf, ht⟩ := cdoneRule_ok h; exact .inr (.inl ⟨hf, x, ht⟩)
  | sdone y =>
    obtain ⟨-, ⟨-, hf, ht⟩ | ⟨hi, -⟩⟩ := sdoneRule_ok h
    · exact .inr (.inr ⟨hf, y, ht⟩)
    · simp [hm] at hi
  | cfg m r c l => exact absurd (cfgRule_ok h).1 (by simp [hc])
  | run => exact absurd (runRule_ok h).1 (by simp [hc])
  | tick v => obtain ⟨-, ⟨hn, -⟩ | ⟨hn, -⟩⟩ := tickRule_ok h <;> simp [hm] at hn
  | bpoll => obtain ⟨-, hb, -⟩ := bpollRule_ok h; simp [hm] at hb
  | xrd sel idx => obtain ⟨-, hb, -⟩ := xrdRule_ok h; simp [hm] at hb
  | xwr idx v => obtain ⟨-, hb, -⟩ := xwrRule_ok h; simp [hm] at hb
  | bdone => obtain ⟨-, hb, -⟩ := bdoneRule_ok h; simp [hm] at hb
  | measS => exact absurd (measSampleRule_ok h).1 (by simp [hc])
  | measB => exact absurd (measBlockRule_ok h).1 (by simp [hc])

/-- An event of a Polling run has its effect, or at most sets the refusal mark. -/
theorem exec_polling (hc : s.cst = .running) (hm : s.mode = .polling) (h : exec i s = .next t) :
    resultOf i s = .ok t ∨ t = { s with refused := t.refused } := by
  rw [exec_eq_settle] at h
  obtain e | ⟨-, rfl⟩ | ⟨c, e, -⟩ | ⟨q, -, rfl⟩ | ⟨q, e, -⟩ := settle_next h
  · exact .inl e
  · exact .inr rfl
  · exact absurd e (resultOf_ne_fatal_of_running hc c)
  · exact .inr rfl
  · exact absurd (resultOf_fault e) (by simp [hm])

/-- The output of one round of the Polling loop, for its sample and its result. -/
def pollingRound (src : BitVec 2) (p : Sample × Sample) : List OutEvent := [.convStart src, .sreq p.1, .dacOut p.2]

/-- The output of the round that is under way at a value of FG, `x` being the sample fetched last. -/
def startedRound (src : BitVec 2) (x : Sample) : Foreground → List OutEvent
  | .pConv => [.convStart src]
  | .pXf => [.convStart src, .sreq x]
  | _ => []

/-- The Polling run from `s` stands in `t`, having output whole rounds and the started one. -/
structure State.PolledTo (s t : State) : Prop where
  running : t.cst = .running
  polling : t.mode = .polling
  source : t.src = s.src
  loop : t.fg = .pTrig ∨ t.fg = .pConv ∨ t.fg = .pXf
  output : ∃ rounds : List (Sample × Sample),
    t.trace = s.trace ++ (rounds.flatMap (pollingRound s.src) ++ startedRound s.src t.psample t.fg)

theorem State.PolledTo.refl (hc : s.cst = .running) (hm : s.mode = .polling) (hf : s.fg = .pTrig) : s.PolledTo s :=
  ⟨hc, hm, rfl, .inl hf, [], by simp [hf, startedRound]⟩

/-- PTRIG starts a round, CDONE continues it, and SDONE makes it a whole one. -/
theorem State.PolledTo.exec (h : s.PolledTo t) (he : exec i t = .next u) : s.PolledTo u := by
  obtain ⟨rounds, htrace⟩ := h.output
  obtain e | hu := exec_polling h.running h.polling he
  · obtain ⟨hf, rfl⟩ | ⟨hf, x, rfl⟩ | ⟨hf, y, rfl⟩ := resultOf_ok_polling h.running h.polling e
    · exact { h with
        loop := .inr (.inl rfl)
        output := ⟨rounds, by simp [htrace, hf, startedRound, h.source]⟩ }
    · exact { h with
        loop := .inr (.inr rfl)
        output := ⟨rounds, by simp [htrace, hf, startedRound, State.fetchSample]⟩ }
    · exact { h with
        loop := .inl rfl
        output := ⟨rounds ++ [(t.psample, y)], by simp [htrace, hf, startedRound, pollingRound]⟩ }
  · rw [hu]
    exact { h with }

/-- Settles O25: every event keeps `PolledTo`, which holds at the start. -/
theorem pollingRunsRepeatOneRound : Obligations.PollingRunsRepeatOneRound := by
  intro is s t hc hm hf h
  have ht : s.PolledTo t := execAll_induction State.PolledTo.exec (.refl hc hm hf) h
  obtain ⟨rounds, htrace⟩ := ht.output
  refine ⟨rounds, startedRound s.src t.psample t.fg, newEvents_of_trace_eq htrace, ?_⟩
  obtain hg | hg | hg := ht.loop <;> simp [hg, startedRound]

end Sys2Proof.Machine
end

section
/-! Interrupt mode: an invocation that is admitted, one that returns, and the two in turn (43_interrupt.md R150, R154 to
R156). -/
namespace Sys2Proof.Machine

variable {i : Instr} {is : List Instr} {s t : State}

/-- The bound on the invocation stack is positive (00_scope.md R2). -/
theorem nestMax_pos {n : Nat} (h : Config.nestMax = some n) : 0 < n := by
  obtain ⟨p, -, rfl⟩ := Option.map_eq_some_iff.mp h
  exact p.succ_pos

/-- TICK with room on the stack, as one update (43_interrupt.md R150, R151). -/
theorem exec_tick_of_room (hc : s.cst = .running) (hm : s.mode = .interrupt)
    (hroom : Config.nestMax ≠ some s.istack.length) (v : Sample) :
    exec (.tick v) s = .next
      { s with
        ovr := if s.guard then true else s.ovr, guard := true, istack := s.istack ++ [v],
        trace := s.trace ++ [.sreq v] } := by
  obtain ⟨-, -, htick, -⟩ := tickOutsideBlockDmaFollowsItsRule v s
  exact htick hc hm hroom

/-- TICK at the bound: the fault NestOverflow (43_interrupt.md R153). -/
theorem exec_tick_of_full (hc : s.cst = .running) (hm : s.mode = .interrupt)
    (hfull : Config.nestMax = some s.istack.length) (v : Sample) :
    exec (.tick v) s = .next { s with faulted := true } := by
  obtain ⟨-, -, -, hfault, hsettle, -⟩ := tickOutsideBlockDmaFollowsItsRule v s
  rw [hsettle, (hfault Config.nestMax hc hm hfull).2]

/-- SDONE with an invocation outstanding, as one update (43_interrupt.md R154). -/
theorem exec_sdone_of_outstanding (hc : s.cst = .running) (hm : s.mode = .interrupt) {outer : List Sample} {x : Sample}
    (hs : s.istack = outer ++ [x]) (y : Sample) :
    exec (.sdone y) s = .next { s with istack := outer, guard := false, trace := s.trace ++ [.dacOut y] } := by
  obtain ⟨-, -, -, hsdone, -⟩ := sdoneFollowsItsRule y s
  exact hsdone x outer hc hm hs

/-- Settles O26: the return clears GUARD, and the TICK after it tests the cleared GUARD. -/
theorem nestedReturnHidesTheNextOverrun : Obligations.NestedReturnHidesTheNextOverrun := by
  intro s outer x y v hc hm hs _ hroom
  have hsdone := exec_sdone_of_outstanding hc hm hs y
  refine ⟨_, _, hsdone, rfl, rfl, exec_tick_of_room ?_ ?_ ?_ v, rfl, rfl⟩
  exacts [hc, hm, hroom]

theorem execAll_cons (h : exec i s = .next t) : execAll (i :: is) s = execAll is t := by
  simp only [execAll, h]

/-- From an idle state, a TICK and the SDONE that answers it leave their two output events and nothing else: ISTACK and
GUARD are back at their idle values. -/
theorem execAll_tick_sdone (hc : s.cst = .running) (hm : s.mode = .interrupt) (hi : s.istack = [])
    (hg : s.guard = false) (v y : Sample) :
    execAll (.tick v :: .sdone y :: is) s = execAll is { s with trace := s.trace ++ [.sreq v, .dacOut y] } := by
  have hroom : Config.nestMax ≠ some s.istack.length := fun h => by simpa [hi] using nestMax_pos h
  rw [execAll_cons (exec_tick_of_room hc hm hroom v),
    execAll_cons (exec_sdone_of_outstanding (outer := []) (x := v) ?_ ?_ ?_ y)]
  · simp only [hg, Bool.false_eq_true, if_false, List.append_assoc, List.singleton_append]
    rw [← hi, ← hg]
  · exact hc
  · exact hm
  · simp [hi]

/-- Settles O27, by induction on the calls: each leaves the state idle again. -/
theorem invocationsThatReturnInTimeAnswerEachTick : Obligations.InvocationsThatReturnInTimeAnswerEachTick := by
  intro calls
  induction calls with
  | nil => intro s _ _ _ _; simp [execAll]
  | cons p calls ih =>
    intro s hc hm hi hg
    have hfirst := execAll_tick_sdone (is := calls.flatMap fun p => [.tick p.1, .sdone p.2]) hc hm hi hg p.1 p.2
    simpa using hfirst.trans (ih _ hc hm hi hg)

end Sys2Proof.Machine
end

section
/-! The overrun evidence (10_state.md R31, 70_reset_and_hazards.md R303): OVR and FAULTED are sticky in a run, so a
clean run has met no TICK with an invocation outstanding. -/
namespace Sys2Proof.Machine

variable {i : Instr} {is : List Instr} {s t : State} {v : Sample}

/-! ## The sticky bits -/

@[simp] theorem State.tickPhases_ovr (s : State) (n : Nat) (v : Sample) :
    ((s.drainPhase n).capturePhase n v).ovr = s.ovr := by
  rw [State.tickPhases_frame]

/-- Only the run start clears OVR (10_state.md R31). -/
theorem effect_ovr (hR : i ≠ .run) (ho : s.ovr = true) : (effect i s).ovr = true := by
  cases i
  case run => exact absurd rfl hR
  case tick v => simp only [effect]; split_ifs <;> simp [State.enterInvocation, ho]
  case sdone y => simp only [effect]; split_ifs <;> simp [State.leaveInvocation, ho]
  case bpoll => simp only [effect]; split_ifs <;> simp [ho]
  all_goals simpa [effect] using ho

theorem effect_faulted (i : Instr) (s : State) : (effect i s).faulted = s.faulted := by
  obtain ⟨_, _, _, h⟩ := effect_recast s i
  exact congrArg (·.faulted) (h s.faulted s.refused s.capRace s.pbRace s.pending s.trace s.draws (.inl rfl))

theorem exec_ovr (hc : s.cst = .running) (ho : s.ovr = true) (h : exec i s = .next t) : t.ovr = true := by
  obtain hr | ht := exec_next h
  · have hR : i ≠ .run := by
      rintro rfl
      simpa [hc] using (runRule_ok hr).1
    rw [resultOf_ok_eq_effect hr]
    exact effect_ovr hR ho
  · exact (congrArg (·.ovr) ht).trans ho

theorem exec_faulted (hf : s.faulted = true) (h : exec i s = .next t) : t.faulted = true := by
  rw [exec_eq_settle] at h
  obtain e | ⟨-, rfl⟩ | ⟨c, -, rfl⟩ | ⟨q, -, rfl⟩ | ⟨q, -, rfl⟩ := settle_next h
  · rw [resultOf_ok_eq_effect e, effect_faulted, hf]
  · exact hf
  · exact hf
  · exact hf
  · rfl

/-- The run has recorded an overrun or a fault. -/
structure State.RunMarked (s : State) : Prop where
  running : s.cst = .running
  recorded : s.ovr = true ∨ s.faulted = true

theorem State.RunMarked.exec (hs : s.RunMarked) (h : exec i s = .next t) : t.RunMarked :=
  ⟨exec_running hs.running h,
    hs.recorded.imp (fun ho => exec_ovr hs.running ho h) fun hf => exec_faulted hf h⟩

/-! ## The evidence -/

theorem State.overrunEvidence_of_not_running (hc : s.cst ≠ .running) : s.OverrunEvidence := fun h => absurd h hc

/-- TICK's entry: with GUARD clear it makes the one invocation, with GUARD set it records the overrun. -/
theorem State.OverrunEvidence.enterInvocation (h : s.OverrunEvidence) (hc : s.cst = .running)
    (hm : s.mode = .interrupt) (v : Sample) : (s.testAndSetGuard.enterInvocation v).OverrunEvidence := by
  intro _ _ ho
  obtain ⟨ho, hg⟩ : s.ovr = false ∧ s.guard = false := Bool.or_eq_false_iff.mp ho
  obtain ⟨hi, -⟩ | ⟨x, -, hx⟩ := h hc hm ho
  · exact .inr ⟨v, by simp [State.enterInvocation, hi], rfl⟩
  · simp [hg] at hx

/-- SDONE's return: at most one invocation was outstanding, so none is. -/
theorem State.OverrunEvidence.leaveInvocation (h : s.OverrunEvidence) (hc : s.cst = .running)
    (hm : s.mode = .interrupt) (y : Sample) : (s.leaveInvocation y).clearGuard.OverrunEvidence := by
  intro _ _ ho
  obtain ⟨hi, -⟩ | ⟨x, hi, -⟩ := h hc hm ho <;> exact .inl ⟨by simp [State.leaveInvocation, hi], rfl⟩

theorem State.OverrunEvidence.effect (h : s.OverrunEvidence) (hr : resultOf i s = .ok t) : t.OverrunEvidence := by
  cases i with
  | cfg m r c l =>
    obtain ⟨-, -, -, -, rfl⟩ := cfgRule_ok hr
    exact State.overrunEvidence_of_not_running (by simp)
  | run =>
    obtain ⟨-, -, rfl⟩ := runRule_ok hr
    exact fun _ _ _ => .inl ⟨rfl, rfl⟩
  | tick v =>
    obtain ⟨hc, ⟨hm, -, rfl⟩ | ⟨hm, n, -, -, -, rfl⟩⟩ := tickRule_ok hr
    · exact h.enterInvocation hc hm v
    · exact fun _ hi => absurd hi (by simp [hm])
  | sdone y =>
    obtain ⟨hc, ⟨-, -, rfl⟩ | ⟨hm, -, rfl⟩⟩ := sdoneRule_ok hr
    · exact h
    · exact h.leaveInvocation hc hm y
  | bpoll => obtain ⟨-, -, -, ⟨-, rfl⟩ | ⟨-, rfl⟩⟩ := bpollRule_ok hr <;> exact h
  | ptrig | cdone | xrd | xwr | bdone | measS | measB =>
    obtain rfl := resultOf_ok_eq_effect hr
    exact h

theorem State.OverrunEvidence.exec (h : s.OverrunEvidence) (he : exec i s = .next t) : t.OverrunEvidence := by
  rw [exec_eq_settle] at he
  obtain e | ⟨-, rfl⟩ | ⟨c, -, rfl⟩ | ⟨q, -, rfl⟩ | ⟨q, -, rfl⟩ := settle_next he
  · exact h.effect e
  · exact h
  · exact State.overrunEvidence_of_not_running (by simp)
  · exact h
  · exact h

theorem State.OverrunEvidence.step (h : s.OverrunEvidence) (hs : step s = .next t) : t.OverrunEvidence := by
  obtain ⟨-, rfl⟩ | ⟨_, -, rfl⟩ | ⟨_, -, rfl⟩ | ⟨_, _, -, ⟨i, -, he⟩ | ⟨_, -, rfl⟩⟩ := step_next hs
  · exact h
  · exact State.overrunEvidence_of_not_running nofun
  · exact State.overrunEvidence_of_not_running nofun
  · exact State.OverrunEvidence.exec (s := s.takeInput) h he
  · exact h

/-! ## A TICK that finds an invocation outstanding -/

/-- The evidence says that GUARD is set, unless an overrun is on record already. -/
theorem State.OverrunEvidence.ovr_or_guard (h : s.OverrunEvidence) (hc : s.cst = .running) (hm : s.mode = .interrupt)
    (hi : s.istack ≠ []) : s.ovr = true ∨ s.guard = true := by
  by_contra! hn
  obtain ⟨he, -⟩ | ⟨x, -, hg⟩ := h hc hm (by simpa using hn.1)
  · exact hi he
  · exact hn.2 hg

theorem State.OverrunEvidence.tick_ovr (h : s.OverrunEvidence) (hc : s.cst = .running) (hm : s.mode = .interrupt)
    (hi : s.istack ≠ []) {limit : Option Nat} (ht : tickRule limit v s = .ok t) : t.ovr = true := by
  obtain ⟨-, ⟨-, -, rfl⟩ | ⟨hb, -⟩⟩ := tickRule_ok ht
  · exact Bool.or_eq_true_iff.mpr (h.ovr_or_guard hc hm hi)
  · simp [hm] at hb

/-- Such a TICK records the overrun, or at the bound the fault. -/
theorem State.OverrunEvidence.tick_runMarked (h : s.OverrunEvidence) (hc : s.cst = .running)
    (hm : s.mode = .interrupt) (hi : s.istack ≠ []) (he : Machine.exec (.tick v) s = .next t) : t.RunMarked := by
  refine ⟨exec_running hc he, ?_⟩
  by_cases hb : Config.nestMax = some s.istack.length
  · obtain rfl := Host.Outcome.next.inj ((exec_tick_of_full hc hm hb v).symm.trans he)
    exact .inr rfl
  · obtain rfl := Host.Outcome.next.inj ((exec_tick_of_room hc hm hb v).symm.trans he)
    obtain ho | hg := h.ovr_or_guard hc hm hi
    · exact .inl (by simp [ho])
    · exact .inl (by simp [hg])

/-! ## The whole run -/

theorem exists_exec_of_execAll_cons (h : execAll (i :: is) s = .next t) :
    ∃ u, exec i s = .next u ∧ execAll is u = .next t := by
  rw [execAll] at h
  cases he : exec i s with
  | next u => rw [he] at h; exact ⟨u, rfl, h⟩
  | fault r => rw [he] at h; cases h
  | refused r => rw [he] at h; cases h

/-- A run of Interrupt mode with its evidence. -/
structure State.InterruptRun (s : State) : Prop where
  running : s.cst = .running
  interrupt : s.mode = .interrupt
  evidence : s.OverrunEvidence

theorem State.InterruptRun.exec (hs : s.InterruptRun) (h : exec i s = .next t) : t.InterruptRun := by
  have hf := exec_footprint hs.running h
  rw [hs.interrupt] at hf
  exact ⟨exec_running hs.running h, (congrArg (·.mode) hf).trans hs.interrupt, hs.evidence.exec h⟩

theorem State.InterruptRun.start (hc : s.cst = .unconf ∨ s.cst = .configured) (hm : s.mode = .interrupt)
    (h : Machine.exec .run s = .next t) : t.InterruptRun := by
  obtain ⟨-, hrun, -⟩ := runFollowsItsRule s
  obtain ⟨f, he, -⟩ := hrun hc (by simp [hm])
  obtain rfl := Host.Outcome.next.inj (he.symm.trans h)
  exact ⟨rfl, hm, fun _ _ _ => .inl ⟨rfl, rfl⟩⟩

/-- Settles O16: every step keeps the evidence, OVR is sticky, and the evidence makes a TICK with an invocation
outstanding leave a mark that stays to the end of the run. -/
theorem stepKeepsTheOverrunEvidence : Obligations.StepKeepsTheOverrunEvidence := by
  refine ⟨fun s t h hs => h.step hs, fun s t hc ho h hr hp => ?_,
    fun limit v s t h hc hm hi ht => h.tick_ovr hc hm hi ht,
    fun before after v u s m t hu hmode hrun hbefore hafter hf ho => ?_⟩
  · obtain hr' | hp' | ⟨w, i, -, -, he⟩ | ht := step_next_input h
    · exact absurd hr' hr
    · exact absurd hp' hp
    · exact exec_ovr (s := s.takeInput) hc ho he
    · exact (congrArg (·.ovr) ht).trans ho
  · have hm : m.InterruptRun :=
      execAll_induction State.InterruptRun.exec (.start hu hmode hrun) hbefore
    obtain ⟨m', htick, hrest⟩ := exists_exec_of_execAll_cons hafter
    by_contra hi
    have hm' : m'.RunMarked := hm.evidence.tick_runMarked hm.running hm.interrupt hi htick
    have ht : t.RunMarked := execAll_induction State.RunMarked.exec hm' hrest
    simpa [hf, ho] using ht.recorded

end Sys2Proof.Machine
end

section
/-! TICK in BlockDMA: when its two phases run, and what they make of each register (44_block_producer.md R170 to R175,
R179). -/
namespace Sys2Proof.Machine

variable {s t : State} {n : Nat} {v : Sample}

theorem exec_tick_of_blockDMA (hc : s.cst = .running) (hm : s.mode = .blockDMA) (v : Sample) :
    exec (.tick v) s = settle s (tickBlock v s) := by
  rw [exec_eq_settle, resultOf, tickRule_of_blockDMA hc hm]

theorem exec_tick_of_inRange (hc : s.cst = .running) (hm : s.mode = .blockDMA) (hn : s.bufLen = some n)
    (hf : s.fillIdx.toNat < n) (hd : s.drainIdx.toNat ≤ n) (v : Sample) :
    exec (.tick v) s = .next ((s.drainPhase n).capturePhase n v) := by
  have hr : ¬(n ≤ s.fillIdx.toNat ∨ n < s.drainIdx.toNat) := by omega
  rw [exec_tick_of_blockDMA hc hm, tickBlock, withLen, hn]
  simp only [hr, if_false, settle]

theorem exec_tick_of_outOfRange (hc : s.cst = .running) (hm : s.mode = .blockDMA) (hn : s.bufLen = some n)
    (hr : n ≤ s.fillIdx.toNat ∨ n < s.drainIdx.toNat) (v : Sample) : exec (.tick v) s = .next s.markFaulted := by
  rw [exec_tick_of_blockDMA hc hm, tickBlock, withLen, hn]
  simp only [hr, if_true, settle]

/-- A TICK that the model does not stop runs its phases, or faults for an index out of range (log 12). -/
theorem exec_tick_blockDMA_cases (hc : s.cst = .running) (hm : s.mode = .blockDMA) (h : exec (.tick v) s = .next t) :
    ∃ n, s.bufLen = some n ∧
      ((s.fillIdx.toNat < n ∧ s.drainIdx.toNat ≤ n ∧ t = (s.drainPhase n).capturePhase n v) ∨
       ((n ≤ s.fillIdx.toNat ∨ n < s.drainIdx.toNat) ∧ t = s.markFaulted)) := by
  cases hn : s.bufLen with
  | none => simp [exec_tick_of_blockDMA hc hm, tickBlock, withLen, hn, settle] at h
  | some n =>
    refine ⟨n, rfl, ?_⟩
    by_cases hr : n ≤ s.fillIdx.toNat ∨ n < s.drainIdx.toNat
    · exact .inr ⟨hr, Host.Outcome.next.inj (h.symm.trans (exec_tick_of_outOfRange hc hm hn hr v))⟩
    · have hf : s.fillIdx.toNat < n := by omega
      have hd : s.drainIdx.toNat ≤ n := by omega
      exact .inl ⟨hf, hd, Host.Outcome.next.inj (h.symm.trans (exec_tick_of_inRange hc hm hn hf hd v))⟩

/-- The buffer that a tick drains: the published one where a swap is due (44_block_producer.md R171, R172). -/
def State.drainLabel (s : State) (n : Nat) : Label := if s.drainIdx.toNat = n then s.pbW else s.pbR

/-- The index that a tick drains: 0 where a swap is due (44_block_producer.md R171, R172). -/
def State.drainStart (s : State) (n : Nat) : BitVec 8 := if s.drainIdx.toNat = n then 0 else s.drainIdx

/-- Both phases of a tick as one update. -/
theorem State.tickPhases_eq (s : State) (n : Nat) (v : Sample) :
    (s.drainPhase n).capturePhase n v =
      (let full := (s.fillIdx + 1).toNat = n
       { s with
         pbR := s.drainLabel n, drainIdx := s.drainStart n + 1,
         pbRace := s.pbRace || (decide (s.fg = .bBusy) && decide (s.drainLabel n = s.blbl)),
         mem := memStore s.mem s.captureAddr.toNat v,
         capRace := s.capRace || (decide (s.fg = .bBusy) && decide (s.capW = s.blbl)),
         capW := if full then other s.capW else s.capW,
         fillIdx := if full then 0 else s.fillIdx + 1,
         trace := s.trace ++ s.tickOutput n }) := by
  simp only [State.capturePhase_eq, State.drainPhase_eq, State.tickOutput, ← List.append_assoc]
  rfl

theorem State.memRead_tickPhases (hw : memWf s.mem = true) (n : Nat) (v : Sample) (a : BufAddr) :
    ((s.drainPhase n).capturePhase n v).memRead a = if a = s.captureAddr then v else s.memRead a := by
  rw [State.memRead_eq_of_mem (State.tickPhases_mem s n v), State.memRead_memWrite hw]
  exact if_congr eq_comm rfl rfl

/-- Settles O20: the two phases run, and each register is read off their one update. -/
theorem tickInBlockDmaFollowsItsRule : Obligations.TickInBlockDmaFollowsItsRule := by
  intro v s n hc hm hn hf hd hw
  have hfull : (s.fillIdx + 1).toNat = n ↔ s.fillIdx.toNat + 1 = n := by
    rw [toNat_succ_of_lt hf (decodeN_le hn).2]
  refine ⟨_, s.drainLabel n, s.drainStart n, exec_tick_of_inRange hc hm hn hf hd v,
    fun h => ⟨if_pos h, if_pos h⟩, fun h => ⟨if_neg h, if_neg h⟩, ?_, ?_, fun h => ?_, fun h => ?_,
    State.tickPhases_fillIdx_lt hn hf v, ?_, State.memRead_tickPhases hw n v, ?_, ?_, State.tickPhases_frame s n v⟩
  · rw [State.tickPhases_eq]
  · rw [State.tickPhases_eq]
  · simp only [State.tickPhases_eq, hfull, h, if_true, and_self]
  · simp only [State.tickPhases_eq, hfull, h, if_false, and_self]
  · simp only [State.tickPhases_eq, State.tickOutput, hfull, ← List.append_assoc]
    rfl
  · simp only [State.tickPhases_eq, Bool.or_eq_true, Bool.and_eq_true, decide_eq_true_eq]
  · simp only [State.tickPhases_eq, Bool.or_eq_true, Bool.and_eq_true, decide_eq_true_eq]

end Sys2Proof.Machine
end

section
/-! The phases of a tick against each other and against the consumer (44_block_producer.md R176, R177). -/
namespace Sys2Proof.Machine

variable {s t : State} {n : Nat} {v : Sample}

/-- The drain reads a playback buffer and the capture writes a capture buffer, which share no halfword. -/
theorem State.memRead_pbAddr_memWrite_captureAddr (hw : memWf s.mem = true) (v : Sample) (l : Label) (i : BitVec 7) :
    (s.memWrite s.captureAddr v).memRead (pbAddr l i) = s.memRead (pbAddr l i) := by
  rw [State.memRead_memWrite hw, State.captureAddr, if_neg (capAddr_ne_pbAddr _ _ _ _)]

/-- The output of the drain phase. -/
def State.drainOutput (s : State) (n : Nat) : List OutEvent :=
  (if s.drainIdx.toNat = n then [.drainSwap s.pbW] else []) ++
    [.dacOut (s.memRead (pbAddr (s.drainLabel n) (idxBits (s.drainStart n))))]

/-- The output of the capture phase. -/
def State.captureOutput (s : State) (n : Nat) : List OutEvent :=
  if (s.fillIdx + 1).toNat = n then [.capDone s.capW] else []

theorem State.drainPhase_trace (s : State) (n : Nat) : (s.drainPhase n).trace = s.trace ++ s.drainOutput n := by
  rw [State.drainPhase_eq]
  rfl

theorem State.capturePhase_trace (s : State) (n : Nat) (v : Sample) :
    (s.capturePhase n v).trace = s.trace ++ s.captureOutput n := by
  rw [State.capturePhase_eq]
  rfl

theorem State.drainOutput_capturePhase (hw : memWf s.mem = true) (n : Nat) (v : Sample) :
    (s.capturePhase n v).drainOutput n = s.drainOutput n := by
  have hread := State.memRead_pbAddr_memWrite_captureAddr hw v (s.drainLabel n) (idxBits (s.drainStart n))
  rw [State.capturePhase_eq, State.drainOutput, State.drainOutput, ← hread]
  rfl

theorem State.captureOutput_drainPhase (s : State) (n : Nat) :
    (s.drainPhase n).captureOutput n = s.captureOutput n := by
  rw [State.drainPhase_eq]
  rfl

/-- Settles O32: the drain reads nothing that the capture writes, nor the other way round. -/
theorem tickPhasesCommute : Obligations.TickPhasesCommute := by
  intro s n v hw
  refine ⟨?_, ?_⟩
  · simp only [State.drainPhase_eq, State.capturePhase_eq]
    rfl
  · simp only [State.drainPhase_trace, State.capturePhase_trace, State.drainOutput_capturePhase hw,
      State.captureOutput_drainPhase, List.append_assoc]
    exact List.perm_append_comm.append_left s.trace

/-- The phases read the consumer's registers for the race marks alone. -/
theorem State.tickPhases_with_consumer (s : State) (n : Nat) (v : Sample) (f : Foreground) (b r : Label) :
    ∃ c p, (State.drainPhase { s with fg := f, blbl := b, capR := r } n).capturePhase n v =
      { (s.drainPhase n).capturePhase n v with fg := f, blbl := b, capR := r, capRace := c, pbRace := p } := by
  simp only [State.tickPhases_eq]
  exact ⟨_, _, rfl⟩

/-- Where no swap is due the phases do not read PB_W. -/
theorem State.tickPhases_with_pbW (hd : s.drainIdx.toNat ≠ n) (v : Sample) (w : Label) :
    (State.drainPhase { s with pbW := w } n).capturePhase n v =
      { (s.drainPhase n).capturePhase n v with pbW := w } := by
  simp only [State.tickPhases_eq, State.drainLabel, State.drainStart, State.tickOutput, hd, if_false]
  rfl

/-- Settles O33: the checks of a TICK read neither the consumer's registers nor PB_W, and its phases read the former for
the race marks alone and PB_W for the swap alone. -/
theorem tickIsBlindToTheConsumer : Obligations.TickIsBlindToTheConsumer := by
  intro s t v hc hm h
  obtain ⟨n, hn, ⟨hf, hd, rfl⟩ | ⟨hr, rfl⟩⟩ := exec_tick_blockDMA_cases hc hm h
  · refine ⟨State.tickPhases_capR s n v, State.tickPhases_pbW s n v, by rw [State.tickPhases_eq],
      by rw [State.tickPhases_eq], fun f b r => ?_, fun w hw => ?_⟩
    · obtain ⟨c, p, e⟩ := s.tickPhases_with_consumer n v f b r
      refine ⟨c, p, ?_⟩
      rw [← e]
      exact exec_tick_of_inRange (s := { s with fg := f, blbl := b, capR := r }) hc hm hn hf hd v
    · have hswap : s.drainIdx.toNat ≠ n := fun e => hw (e ▸ hn)
      rw [← State.tickPhases_with_pbW hswap v w]
      exact exec_tick_of_inRange (s := { s with pbW := w }) hc hm hn hf hd v
  · exact ⟨rfl, rfl, rfl, rfl,
      fun f b r => ⟨s.capRace, s.pbRace,
        exec_tick_of_outOfRange (s := { s with fg := f, blbl := b, capR := r }) hc hm hn hr v⟩,
      fun w _ => exec_tick_of_outOfRange (s := { s with pbW := w }) hc hm hn hr v⟩

end Sys2Proof.Machine
end

section
/-! A period of BlockDMA: N ticks fill one capture buffer and drain one playback buffer (44_block_producer.md R171 to
R175). -/
namespace Sys2Proof.Machine

variable {is js : List Instr} {s t : State} {n : Nat} {vs : List Sample} {v : Sample}

theorem execAll_append (h : execAll is s = .next t) : execAll (is ++ js) s = execAll js t := by
  induction is generalizing s with
  | nil => cases h; rfl
  | cons i is ih =>
    obtain ⟨u, hu, hrest⟩ := exists_exec_of_execAll_cons h
    rw [List.cons_append, execAll_cons hu, ih hrest]

theorem execAll_singleton {i : Instr} (h : exec i s = .next t) : execAll [i] s = .next t := execAll_cons h

theorem capAddr_injective (l : Label) : Function.Injective (capAddr l) := fun _ _ h =>
  (BitVec.append_right_inj _).mp h

theorem idxBits_eq_ofNat (i : BitVec 8) : idxBits i = BitVec.ofNat 7 i.toNat := rfl

/-! ## A tick as its swap, its one sample in and out, and its completion -/

/-- A tick without the swap at its start and the completion at its end. -/
def State.moveOne (s : State) (v : Sample) : State := s.markPbRace.drainOne.markCapRace.captureOne v

theorem State.tickPhases_eq_moveOne (s : State) (n : Nat) (v : Sample) :
    (s.drainPhase n).capturePhase n v = ((s.drainSwapAt n).moveOne v).completeAt n := rfl

theorem State.drainSwapAt_of_ne (hd : s.drainIdx.toNat ≠ n) : s.drainSwapAt n = s := if_neg hd

theorem State.completeAt_of_ne (hf : s.fillIdx.toNat ≠ n) : s.completeAt n = s := if_neg hf

theorem exec_tick_of_lt (hc : s.cst = .running) (hm : s.mode = .blockDMA) (hn : s.bufLen = some n)
    (hf : s.fillIdx.toNat < n) (hd : s.drainIdx.toNat < n) (v : Sample) :
    exec (.tick v) s = .next ((s.moveOne v).completeAt n) := by
  rw [exec_tick_of_inRange hc hm hn hf hd.le, State.tickPhases_eq_moveOne, State.drainSwapAt_of_ne hd.ne]

/-! ## The samples of a period, one by one -/

/-- The ticks of a period that starts in `s`, at both indices 0, have brought the samples `vs` and led to `t`; a
completion that is due has not happened. -/
structure State.MovedTo (s : State) (vs : List Sample) (t : State) : Prop where
  frame : t = { s with
    mem := t.mem, fillIdx := t.fillIdx, drainIdx := t.drainIdx, capRace := t.capRace, pbRace := t.pbRace,
    trace := t.trace }
  memory : memWf t.mem = true
  fillIdx : t.fillIdx.toNat = vs.length
  drainIdx : t.drainIdx.toNat = vs.length
  output : t.trace = s.trace ++ (s.pbContents s.pbR vs.length).map .dacOut
  captured : t.capContents s.capW vs.length = vs
  kept : ∀ a, (∀ j, j < vs.length → a ≠ capAddr s.capW (BitVec.ofNat 7 j)) → t.memRead a = s.memRead a

theorem State.MovedTo.refl (hw : memWf s.mem = true) (hf : s.fillIdx = 0) (hd : s.drainIdx = 0) : s.MovedTo [] s where
  frame := rfl
  memory := hw
  fillIdx := by simp [hf]
  drainIdx := by simp [hd]
  output := by simp [State.pbContents]
  captured := rfl
  kept := fun _ _ => rfl

theorem State.moveOne_mem (s : State) (v : Sample) : (s.moveOne v).mem = (s.memWrite s.captureAddr v).mem := rfl
theorem State.moveOne_fillIdx (s : State) (v : Sample) : (s.moveOne v).fillIdx = s.fillIdx + 1 := rfl
theorem State.moveOne_drainIdx (s : State) (v : Sample) : (s.moveOne v).drainIdx = s.drainIdx + 1 := rfl
theorem State.moveOne_trace (s : State) (v : Sample) :
    (s.moveOne v).trace = s.trace ++ [.dacOut (s.memRead s.drainAddr)] := rfl

theorem State.memRead_moveOne (hw : memWf s.mem = true) (v : Sample) (a : BufAddr) :
    (s.moveOne v).memRead a = if s.captureAddr = a then v else s.memRead a := by
  rw [State.memRead_eq_of_mem (State.moveOne_mem s v), State.memRead_memWrite hw]

theorem State.MovedTo.captureAddr (h : s.MovedTo vs t) :
    t.captureAddr = capAddr s.capW (BitVec.ofNat 7 vs.length) := by
  rw [State.captureAddr, idxBits_eq_ofNat, h.fillIdx, h.frame]

theorem State.MovedTo.drainAddr (h : s.MovedTo vs t) : t.drainAddr = pbAddr s.pbR (BitVec.ofNat 7 vs.length) := by
  rw [State.drainAddr, idxBits_eq_ofNat, h.drainIdx, h.frame]

theorem State.capContents_succ (s : State) (l : Label) (k : Nat) :
    s.capContents l (k + 1) = s.capContents l k ++ [s.memRead (capAddr l (BitVec.ofNat 7 k))] := by
  rw [State.capContents, List.range_succ, List.map_append, List.map_singleton, State.capContents]

theorem State.pbContents_succ (s : State) (l : Label) (k : Nat) :
    s.pbContents l (k + 1) = s.pbContents l k ++ [s.memRead (pbAddr l (BitVec.ofNat 7 k))] := by
  rw [State.pbContents, List.range_succ, List.map_append, List.map_singleton, State.pbContents]

/-- One more sample: its store is behind the elements captured before, and in no playback buffer. -/
theorem State.MovedTo.moveOne (h : s.MovedTo vs t) (hn : s.bufLen = some n) (hk : vs.length < n) (v : Sample) :
    s.MovedTo (vs ++ [v]) (t.moveOne v) where
  frame := by rw [h.frame]; rfl
  memory := by
    rw [State.moveOne_mem]
    exact State.memWrite_wf h.memory _ v
  fillIdx := by
    have hf : t.fillIdx.toNat < n := h.fillIdx.trans_lt hk
    rw [State.moveOne_fillIdx, toNat_succ_of_lt hf (decodeN_le hn).2, h.fillIdx, List.length_append,
      List.length_singleton]
  drainIdx := by
    have hd : t.drainIdx.toNat < n := h.drainIdx.trans_lt hk
    rw [State.moveOne_drainIdx, toNat_succ_of_lt hd (decodeN_le hn).2, h.drainIdx, List.length_append,
      List.length_singleton]
  output := by
    have hread : t.memRead t.drainAddr = s.memRead (pbAddr s.pbR (BitVec.ofNat 7 vs.length)) := by
      rw [h.drainAddr, h.kept _ fun _ _ => (capAddr_ne_pbAddr _ _ _ _).symm]
    simp [State.moveOne_trace, h.output, hread, State.pbContents_succ]
  captured := by
    have hearlier : (t.moveOne v).capContents s.capW vs.length = t.capContents s.capW vs.length := by
      refine List.map_congr_left fun j hj => ?_
      have hj := List.mem_range.mp hj
      rw [State.memRead_moveOne h.memory, h.captureAddr, if_neg fun he => ?_]
      have hkj := congrArg BitVec.toNat (capAddr_injective _ he)
      rw [toNat_ofNat_of_lt_bufLen hn hk, toNat_ofNat_of_lt_bufLen hn (hj.trans hk)] at hkj
      exact hj.ne' hkj
    rw [List.length_append, List.length_singleton, State.capContents_succ, hearlier, h.captured,
      State.memRead_moveOne h.memory, h.captureAddr, if_pos rfl]
  kept a ha := by
    simp only [List.length_append, List.length_singleton] at ha
    have hk := Nat.lt_succ_self vs.length
    rw [State.memRead_moveOne h.memory, h.captureAddr, if_neg (ha _ hk).symm, h.kept a fun j hj => ha j (hj.trans hk)]

/-- Ticks from both indices 0 move their samples, and complete the buffer with the last one. -/
theorem exists_execAll_ticks (hc : s.cst = .running) (hm : s.mode = .blockDMA) (hn : s.bufLen = some n)
    (hw : memWf s.mem = true) (hf : s.fillIdx = 0) (hd : s.drainIdx = 0) (hk : vs.length ≤ n) :
    ∃ t, s.MovedTo vs t ∧ execAll (vs.map .tick) s = .next (t.completeAt n) := by
  have hpos := decodeN_le hn
  induction vs using List.reverseRecOn with
  | nil =>
    have hf' : s.fillIdx.toNat ≠ n := by simp [hf]; omega
    exact ⟨s, .refl hw hf hd, by rw [State.completeAt_of_ne hf']; rfl⟩
  | append_singleton vs v ih =>
    have hlt : vs.length < n := by simpa using hk
    obtain ⟨t, ht, he⟩ := ih hlt.le
    have hft : t.fillIdx.toNat < n := ht.fillIdx.trans_lt hlt
    have hdt : t.drainIdx.toNat < n := ht.drainIdx.trans_lt hlt
    rw [State.completeAt_of_ne hft.ne] at he
    refine ⟨t.moveOne v, ht.moveOne hn hlt v, ?_⟩
    rw [List.map_append, execAll_append he]
    refine execAll_singleton (exec_tick_of_lt ?_ ?_ ?_ hft hdt v) <;> rw [ht.frame]
    exacts [hc, hm, hn]

/-! ## The whole period -/

theorem State.drainSwapAt_of_eq (hd : s.drainIdx.toNat = n) :
    s.drainSwapAt n = { s with pbR := s.pbW, drainIdx := 0, trace := s.trace ++ [.drainSwap s.pbW] } := if_pos hd

theorem State.completeAt_of_eq (hf : s.fillIdx.toNat = n) :
    s.completeAt n = { s with trace := s.trace ++ [.capDone s.capW], capW := other s.capW, fillIdx := 0 } := if_pos hf

theorem State.drainSwapAt_frame (s : State) (n : Nat) :
    s.drainSwapAt n =
      { s with
        pbR := (s.drainSwapAt n).pbR, drainIdx := (s.drainSwapAt n).drainIdx, trace := (s.drainSwapAt n).trace } := by
  unfold State.drainSwapAt
  split_ifs <;> rfl

/-- A tick starts with the swap that is due, so the swap may as well be made beforehand. -/
theorem exec_tick_drainSwapAt (hc : s.cst = .running) (hm : s.mode = .blockDMA) (hn : s.bufLen = some n)
    (hf : s.fillIdx.toNat < n) (hd : s.drainIdx.toNat ≤ n) (v : Sample) :
    exec (.tick v) (s.drainSwapAt n) = exec (.tick v) s := by
  by_cases h : s.drainIdx.toNat = n
  · have hpos := decodeN_le hn
    have hzero : (0 : BitVec 8).toNat < n := by simp; omega
    have hframe := s.drainSwapAt_of_eq h
    rw [exec_tick_of_inRange hc hm hn hf hd, exec_tick_of_lt (n := n), State.tickPhases_eq_moveOne] <;> rw [hframe]
    exacts [hc, hm, hn, hf, hzero]
  · rw [State.drainSwapAt_of_ne h]

/-- N ticks move their samples from the state after the swap that is due, and complete the buffer. -/
theorem exists_execAll_period (hc : s.cst = .running) (hm : s.mode = .blockDMA) (hn : s.bufLen = some n)
    (hf : s.fillIdx = 0) (hd : s.drainIdx.toNat = n ∨ s.drainIdx = 0) (hw : memWf s.mem = true)
    (hlen : vs.length = n) :
    ∃ t, (s.drainSwapAt n).MovedTo vs t ∧ execAll (vs.map .tick) s = .next (t.completeAt n) := by
  have hpos := decodeN_le hn
  have hstart : (s.drainSwapAt n).drainIdx = 0 := by
    obtain hd | hd := hd
    · rw [State.drainSwapAt_of_eq hd]
    · rw [State.drainSwapAt_of_ne (by simp [hd]; omega), hd]
  have hsame : execAll (vs.map .tick) (s.drainSwapAt n) = execAll (vs.map .tick) s := by
    cases vs with
    | nil => simp at hlen; omega
    | cons v vs =>
      have hd' : s.drainIdx.toNat ≤ n := hd.elim Nat.le_of_eq fun h => by simp [h]
      have hf' : s.fillIdx.toNat < n := by simp [hf]; omega
      simp only [List.map_cons, execAll, exec_tick_drainSwapAt hc hm hn hf' hd']
  rw [← hsame]
  have hframe := s.drainSwapAt_frame n
  refine exists_execAll_ticks ?_ ?_ ?_ ?_ ?_ hstart hlen.le <;> rw [hframe]
  exacts [hc, hm, hn, hw, hf]

/-- Settles O35: after the swap that is due, an induction over the samples, and the completion. -/
theorem onePeriodCapturesAndDrains : Obligations.OnePeriodCapturesAndDrains := by
  intro s n vs hc hm hn hf hd hw hlen
  obtain ⟨t, ht, he⟩ := exists_execAll_period hc hm hn hf hd hw hlen
  subst hlen
  have hpos := decodeN_le hn
  have hcapW : (s.drainSwapAt vs.length).capW = s.capW := by rw [State.drainSwapAt_frame]
  have hread (a : BufAddr) : (s.drainSwapAt vs.length).memRead a = s.memRead a :=
    State.memRead_eq_of_mem (by rw [State.drainSwapAt_frame]) a
  have htrace := ht.output
  have hcaptured := ht.captured
  have hkept := ht.kept
  simp only [hcapW, hread] at hcaptured hkept
  rw [State.completeAt_of_eq ht.fillIdx] at he
  refine ⟨_, he, hcaptured, ?_, rfl, ht.drainIdx, fun h => ⟨?_, ?_⟩, fun h => ⟨?_, ?_⟩, hkept⟩
  · rw [ht.frame, hcapW]
  · rw [ht.frame, State.drainSwapAt_of_eq h]
  · rw [htrace, ht.frame, hcapW, State.drainSwapAt_of_eq h]
    rfl
  · rw [ht.frame, State.drainSwapAt_of_ne (by simp [h]; omega)]
  · rw [htrace, ht.frame, hcapW, State.drainSwapAt_of_ne (by simp [h]; omega)]

end Sys2Proof.Machine
end

section
/-! The labels of a BlockDMA run (44_block_producer.md R178, 45_block_consumer.md R208): each CAP_DONE names CAP_W and
flips it; each BREQ names the other label of CAP_R, and BDONE then makes that label CAP_R. -/
namespace Sys2Proof.Machine

variable {i : Instr} {s t u : State} {l : Label} {ls : List Label}

/-! ## The labels of a trace -/

theorem other_other (l : Label) : other (other l) = l := by cases l <;> rfl

theorem capDoneLabels_append (es fs : List OutEvent) :
    capDoneLabels (es ++ fs) = capDoneLabels es ++ capDoneLabels fs := by
  induction es with
  | nil => rfl
  | cons e es ih => cases e <;> simp [capDoneLabels, ih]

theorem breqLabels_append (es fs : List OutEvent) : breqLabels (es ++ fs) = breqLabels es ++ breqLabels fs := by
  induction es with
  | nil => rfl
  | cons e es ih => cases e <;> simp [breqLabels, ih]

theorem capDoneLabels_tickOutput (s : State) (n : Nat) :
    capDoneLabels (s.tickOutput n) = if (s.fillIdx + 1).toNat = n then [s.capW] else [] := by
  simp only [State.tickOutput]
  split_ifs <;> rfl

theorem breqLabels_tickOutput (s : State) (n : Nat) : breqLabels (s.tickOutput n) = [] := by
  simp only [State.tickOutput]
  split_ifs <;> rfl

/-! ## Alternation -/

/-- The labels alternate from A, and the next one to come is `l`. -/
inductive AlternatesTo : List Label → Label → Prop
  | nil : AlternatesTo [] .A
  | snoc {ls : List Label} {l : Label} : AlternatesTo ls l → AlternatesTo (ls ++ [l]) (other l)

theorem alternating_succ (l : Label) (k : Nat) : alternating l (k + 1) = alternating l k ++ [other^[k] l] := by
  induction k generalizing l with
  | zero => rfl
  | succ k ih => rw [alternating, ih, Function.iterate_succ_apply, alternating, List.cons_append]

theorem AlternatesTo.exists_eq_alternating (h : AlternatesTo ls l) :
    ∃ k, ls = alternating .A k ∧ l = other^[k] .A := by
  induction h with
  | nil => exact ⟨0, rfl, rfl⟩
  | snoc _ ih =>
    obtain ⟨k, rfl, rfl⟩ := ih
    exact ⟨k + 1, (alternating_succ .A k).symm, (Function.iterate_succ_apply' other k .A).symm⟩

/-! ## The events of a BlockDMA run -/

/-- The events that have an effect in a BlockDMA run: TICK, the grant, the return, and those that move neither a role
nor FG and output nothing (44_block_producer.md R170, 45_block_consumer.md R200 to R205). -/
theorem resultOf_ok_blockDMA (hc : s.cst = .running) (hm : s.mode = .blockDMA) (h : resultOf i s = .ok t) :
    (∃ v n, i = .tick v ∧ s.bufLen = some n ∧ s.fillIdx.toNat < n ∧ s.drainIdx.toNat ≤ n ∧
        t = (s.drainPhase n).capturePhase n v) ∨
      (i = .bpoll ∧ s.fg = .bPoll ∧ s.capW = s.capR ∧ t = s.grant) ∨
      (i = .bdone ∧ s.fg = .bBusy ∧ t = s.publish) ∨
      (i ≠ .bdone ∧ t = { s with mem := t.mem, rdata := t.rdata }) := by
  cases i with
  | tick v =>
    obtain ⟨-, ⟨hi, -⟩ | ⟨-, n, hn, hf, hd, ht⟩⟩ := tickRule_ok h
    · simp [hm] at hi
    · exact .inl ⟨v, n, rfl, hn, hf, hd, ht⟩
  | bpoll =>
    obtain ⟨-, -, hf, ⟨hw, ht⟩ | ⟨-, ht⟩⟩ := bpollRule_ok h
    · exact .inr (.inl ⟨rfl, hf, hw, ht⟩)
    · exact .inr (.inr (.inr ⟨nofun, by rw [ht]⟩))
  | bdone => obtain ⟨-, -, hf, ht⟩ := bdoneRule_ok h; exact .inr (.inr (.inl ⟨rfl, hf, ht⟩))
  | xrd sel idx => obtain ⟨-, -, -, -, ht⟩ := xrdRule_ok h; exact .inr (.inr (.inr ⟨nofun, by rw [ht]⟩))
  | xwr idx v => obtain ⟨-, -, -, -, rfl⟩ := xwrRule_ok h; exact .inr (.inr (.inr ⟨nofun, rfl⟩))
  | cfg m r c l => exact absurd (cfgRule_ok h).1 (by simp [hc])
  | run => exact absurd (runRule_ok h).1 (by simp [hc])
  | ptrig => obtain ⟨-, hp, -⟩ := ptrigRule_ok h; simp [hm] at hp
  | cdone x => obtain ⟨-, hp, -⟩ := cdoneRule_ok h; simp [hm] at hp
  | sdone y => obtain ⟨-, ⟨hp, -⟩ | ⟨hp, -⟩⟩ := sdoneRule_ok h <;> simp [hm] at hp
  | measS => exact absurd (measSampleRule_ok h).1 (by simp [hc])
  | measB => exact absurd (measBlockRule_ok h).1 (by simp [hc])

/-- While RUNNING an event has its effect, or at most sets the refusal mark or the fault mark. -/
theorem exec_next_of_running (hc : s.cst = .running) (h : exec i s = .next t) :
    resultOf i s = .ok t ∨ t = { s with faulted := t.faulted, refused := t.refused } := by
  rw [exec_eq_settle] at h
  obtain e | ⟨-, rfl⟩ | ⟨c, e, -⟩ | ⟨q, -, rfl⟩ | ⟨q, -, rfl⟩ := settle_next h
  · exact .inl e
  · exact .inr rfl
  · exact absurd e (resultOf_ne_fatal_of_running hc c)
  · exact .inr rfl
  · exact .inr rfl

/-! ## The labels along a run -/

/-- The label of the next grant: the other one of CAP_R, once a buffer under access is returned and CAP_R names it
(45_block_consumer.md R202, R205). -/
def State.nextGrant (s : State) : Label := if s.fg = .bBusy then s.capR else other s.capR

/-- The BlockDMA run from `s` stands in `t`, and so far the labels of its CAP_DONE and of its BREQ events alternate. -/
structure State.AlternatingRun (s t : State) : Prop where
  running : t.cst = .running
  blockDMA : t.mode = .blockDMA
  grantLabel : t.fg = .bBusy → t.blbl = other t.capR
  output : ∃ es, t.trace = s.trace ++ es ∧ AlternatesTo (capDoneLabels es) t.capW ∧
    AlternatesTo (breqLabels es) t.nextGrant

/-- The state in which a run of BlockDMA starts (41_control.md R104). -/
theorem State.AlternatingRun.start (hc : u.cst = .unconf ∨ u.cst = .configured) (hm : u.mode = .blockDMA)
    (h : exec .run u = .next s) : s.AlternatingRun s := by
  obtain ⟨-, hrun, -⟩ := runFollowsItsRule u
  obtain ⟨f, he, -, -, hf⟩ := hrun hc (by simp [hm])
  obtain rfl := hf hm
  obtain rfl := Host.Outcome.next.inj (he.symm.trans h)
  exact ⟨rfl, hm, nofun, [], by simp, .nil, .nil⟩

theorem State.AlternatingRun.tickPhases (h : s.AlternatingRun t) (n : Nat) (v : Sample) :
    s.AlternatingRun ((t.drainPhase n).capturePhase n v) := by
  obtain ⟨es, htrace, hcap, hbreq⟩ := h.output
  have hcap' : AlternatesTo (capDoneLabels (es ++ t.tickOutput n))
      (if (t.fillIdx + 1).toNat = n then other t.capW else t.capW) := by
    rw [capDoneLabels_append, capDoneLabels_tickOutput]
    split_ifs
    · exact hcap.snoc
    · rwa [List.append_nil]
  have hbreq' : AlternatesTo (breqLabels (es ++ t.tickOutput n)) t.nextGrant := by
    rwa [breqLabels_append, breqLabels_tickOutput, List.append_nil]
  rw [State.tickPhases_eq]
  exact { h with output := ⟨es ++ t.tickOutput n, by simp [htrace], hcap', hbreq'⟩ }

theorem State.AlternatingRun.grant (h : s.AlternatingRun t) (hf : t.fg = .bPoll) : s.AlternatingRun t.grant := by
  obtain ⟨es, htrace, hcap, hbreq⟩ := h.output
  refine { h with
    grantLabel := fun _ => rfl
    output := ⟨es ++ [.breq (other t.capR)], by simp [State.grant, htrace], ?_, ?_⟩ }
  · simpa [capDoneLabels_append, capDoneLabels, State.grant] using hcap
  · have hnext : t.nextGrant = other t.capR := if_neg (by simp [hf])
    rw [hnext] at hbreq
    simpa [breqLabels_append, breqLabels, State.grant, State.nextGrant, other_other] using hbreq.snoc

theorem State.AlternatingRun.publish (h : s.AlternatingRun t) (hf : t.fg = .bBusy) : s.AlternatingRun t.publish := by
  obtain ⟨es, htrace, hcap, hbreq⟩ := h.output
  have hnext : t.publish.nextGrant = t.nextGrant := by
    simp [State.nextGrant, State.publish, hf, h.grantLabel hf, other_other]
  exact { h with grantLabel := nofun, output := ⟨es, htrace, hcap, hnext ▸ hbreq⟩ }

theorem State.AlternatingRun.exec (h : s.AlternatingRun t) (he : exec i t = .next u) : s.AlternatingRun u := by
  obtain e | hu := exec_next_of_running h.running he
  · obtain ⟨v, n, -, -, -, -, rfl⟩ | ⟨-, hf, -, rfl⟩ | ⟨-, hf, rfl⟩ | ⟨-, hu⟩ :=
      resultOf_ok_blockDMA h.running h.blockDMA e
    · exact h.tickPhases n v
    · exact h.grant hf
    · exact h.publish hf
    · rw [hu]
      exact { h with }
  · rw [hu]
    exact { h with }

/-- Settles O37: every event keeps `AlternatingRun`, which holds at the run start. -/
theorem labelsAlternateFromA : Obligations.LabelsAlternateFromA := by
  intro is u s t hc hm hrun h
  have ht : s.AlternatingRun t := execAll_induction State.AlternatingRun.exec (.start hc hm hrun) h
  obtain ⟨es, htrace, hcap, hbreq⟩ := ht.output
  rw [newEvents_of_trace_eq htrace]
  obtain ⟨k, hk, -⟩ := hcap.exists_eq_alternating
  obtain ⟨m, hm, -⟩ := hbreq.exists_eq_alternating
  exact ⟨⟨k, hk⟩, m, hm⟩

end Sys2Proof.Machine
end

section
/-! BPOLL, XRD, XWR and BDONE in every state (45_block_consumer.md R200 to R205). -/
namespace Sys2Proof.Machine

variable {i : Instr} {s : State} {n : Nat} {idx : BitVec 7} {body : Result}

theorem faults_of_fault {r : FaultReason} (h : resultOf i s = .fault r) : Faults i s r :=
  ⟨h, by rw [exec_eq_settle, h, settle, State.markFaulted]⟩

/-- An event that belongs to one mode and one value of FG, wherever it is not admitted (30_encoding.md R85). -/
theorem foregroundEvent_notAdmitted {m : Mode} {f : Foreground} {r : RefuseReason}
    (hi : resultOf i s = inMode m s (if s.fg ≠ f then .refuse r else body)) :
    (s.cst = .fatal → exec i s = .next s) ∧
    (s.cst = .unconf ∨ s.cst = .configured → Refuses i s .notRunning) ∧
    (s.cst = .running → s.mode ≠ m → Refuses i s .wrongMode) ∧
    (s.cst = .running → s.mode = m → s.fg ≠ f → Refuses i s r) := by
  refine ⟨fun hc => exec_of_ignored ?_, fun hc => refuses_of_refuse ?_, fun hc hm => refuses_of_refuse ?_,
    fun hc hm hf => refuses_of_refuse ?_⟩ <;> rw [hi]
  · exact whenRunning_of_fatal hc
  · exact whenRunning_of_idle hc
  · exact inMode_of_ne hc hm
  · rw [inMode_of_running hc hm, if_pos hf]

theorem State.Granted.engineAccess_of_le (hg : s.Granted n) (hi : n ≤ idx.toNat) :
    Machine.engineAccess s idx body = .fault .bufferIndex := by
  simp [Machine.engineAccess, inMode_of_running hg.running hg.blockDMA, hg.busy, withLen, hg.length, hi]

theorem exec_bpoll_of_not_ready (hc : s.cst = .running) (hm : s.mode = .blockDMA) (hf : s.fg = .bPoll)
    (hr : s.capW ≠ s.capR) : exec .bpoll s = .next s := by
  simp [exec_eq_settle, resultOf, bpollRule, inMode_of_running hc hm, hf, State.bufferReady, hr, settle]

theorem exec_bdone_of_busy (hc : s.cst = .running) (hm : s.mode = .blockDMA) (hf : s.fg = .bBusy) :
    exec .bdone s = .next s.publish := by
  simp [exec_eq_settle, resultOf, bdoneRule, inMode_of_running hc hm, hf, settle]

/-- Settles O28: the poll grants or finds nothing by CAP_W and CAP_R alone. -/
theorem bpollFollowsItsRule : Obligations.BpollFollowsItsRule := fun _ =>
  ⟨decode_encode .bpoll, exec_bpoll_of_ready, exec_bpoll_of_not_ready, foregroundEvent_notAdmitted rfl⟩

/-- Settles O29: under a grant the index decides between the read and the fault. -/
theorem xrdFollowsItsRule : Obligations.XrdFollowsItsRule := by
  intro sel idx s
  refine ⟨decode_encode (.xrd sel idx), fun n hc hm hf hn hi => ?_, fun n hc hm hf hn hi => ?_,
    foregroundEvent_notAdmitted rfl⟩
  · have hread := State.Granted.exec_xrd ⟨hc, hm, hf, hn⟩ hi sel
    exact ⟨fun hs => by rw [hread, hs]; rfl, fun hs => by rw [hread, hs]; rfl⟩
  · exact faults_of_fault (State.Granted.engineAccess_of_le ⟨hc, hm, hf, hn⟩ hi)

/-- Settles O30: under a grant the index decides between the store and the fault. -/
theorem xwrFollowsItsRule : Obligations.XwrFollowsItsRule := by
  intro idx v s
  refine ⟨decode_encode (.xwr idx v), fun n hc hm hf hn hi hw => ?_, fun n hc hm hf hn hi => ?_,
    foregroundEvent_notAdmitted rfl⟩
  · refine ⟨_, State.Granted.exec_xwr ⟨hc, hm, hf, hn⟩ hi v, fun a => ?_, rfl⟩
    rw [State.memRead_memWrite hw]
    exact if_congr eq_comm rfl rfl
  · exact faults_of_fault (State.Granted.engineAccess_of_le ⟨hc, hm, hf, hn⟩ hi)

/-- Settles O31: FG alone decides whether there is a grant to return. -/
theorem bdoneFollowsItsRule : Obligations.BdoneFollowsItsRule := fun _ =>
  ⟨decode_encode .bdone, exec_bdone_of_busy, foregroundEvent_notAdmitted rfl⟩

end Sys2Proof.Machine
end

section
/-! Readiness along a run (45_block_consumer.md R209): a CAP_DONE flips CAP_W and a BDONE flips CAP_R, and nothing else
moves either. -/
namespace Sys2Proof.Machine

variable {i : Instr} {is : List Instr} {s t : State}

/-- A BlockDMA run in which a buffer under access is the one that its poll granted (45_block_consumer.md R202). -/
structure State.ConsumerRun (s : State) : Prop where
  running : s.cst = .running
  blockDMA : s.mode = .blockDMA
  grantLabel : s.fg = .bBusy → s.blbl = other s.capR

/-- From `s` to `t` the flips of CAP_W and of CAP_R, each CAP_DONE and each of the `k` returns being one, account for
the change of readiness. -/
structure State.ReadinessMoved (k : Nat) (s t : State) : Prop where
  run : t.ConsumerRun
  output : ∃ es, t.trace = s.trace ++ es ∧
    t.bufferReady.toNat ≡ s.bufferReady.toNat + ((capDoneLabels es).length + k) [MOD 2]

theorem State.ReadinessMoved.trans {k k' : Nat} {u : State} (h : s.ReadinessMoved k u) (h' : u.ReadinessMoved k' t) :
    s.ReadinessMoved (k + k') t := by
  obtain ⟨es, htrace, hready⟩ := h.output
  obtain ⟨es', htrace', hready'⟩ := h'.output
  refine ⟨h'.run, es ++ es', by rw [htrace', htrace, List.append_assoc], ?_⟩
  rw [capDoneLabels_append, List.length_append]
  unfold Nat.ModEq at *
  omega

/-- Moving one of CAP_W and CAP_R to the other label turns readiness over. -/
theorem toNat_decide_other_eq (l l' : Label) :
    (decide (other l = l')).toNat ≡ (decide (l = l')).toNat + 1 [MOD 2] := by
  cases l <;> cases l' <;> rfl

theorem State.ConsumerRun.tickPhases (h : s.ConsumerRun) (n : Nat) (v : Sample) :
    s.ReadinessMoved 0 ((s.drainPhase n).capturePhase n v) := by
  rw [State.tickPhases_eq]
  refine ⟨{ h with }, s.tickOutput n, rfl, ?_⟩
  rw [capDoneLabels_tickOutput]
  simp only [State.bufferReady]
  split_ifs
  · exact toNat_decide_other_eq s.capW s.capR
  · rfl

theorem State.ConsumerRun.grant (h : s.ConsumerRun) : s.ReadinessMoved 0 s.grant :=
  ⟨{ h with grantLabel := fun _ => rfl }, [.breq (other s.capR)], rfl, rfl⟩

theorem State.ConsumerRun.publish (h : s.ConsumerRun) (hf : s.fg = .bBusy) : s.ReadinessMoved 1 s.publish := by
  refine ⟨{ h with grantLabel := nofun }, [], by simp, ?_⟩
  simp only [State.bufferReady, State.publish_capW, State.publish_capR, h.grantLabel hf, eq_comm (a := s.capW)]
  exact toNat_decide_other_eq s.capR s.capW

theorem State.ConsumerRun.frame (h : s.ConsumerRun)
    (ht : t = { s with mem := t.mem, rdata := t.rdata, faulted := t.faulted, refused := t.refused }) :
    s.ReadinessMoved 0 t := by
  rw [ht]
  exact ⟨{ h with }, [], by simp, rfl⟩

/-- One event: it counts as a return exactly if it is a BDONE that runs. -/
theorem State.ConsumerRun.exec (h : s.ConsumerRun) (he : exec i s = .next t) :
    s.ReadinessMoved (if i = .bdone ∧ resultOf i s = .ok t then 1 else 0) t := by
  by_cases e : resultOf i s = .ok t
  · obtain ⟨v, n, rfl, -, -, -, rfl⟩ | ⟨rfl, -, -, rfl⟩ | ⟨rfl, hf, rfl⟩ | ⟨hi, ht⟩ :=
      resultOf_ok_blockDMA h.running h.blockDMA e
    · simpa using h.tickPhases n v
    · simpa using h.grant
    · simpa [e] using h.publish hf
    · rw [if_neg fun hb => hi hb.1]
      exact h.frame (by rw [ht])
  · rw [if_neg fun hb => e hb.2]
    exact h.frame (by rw [(exec_next_of_running h.running he).resolve_left e])

theorem State.ConsumerRun.execAll (h : s.ConsumerRun) (he : execAll is s = .next t) :
    s.ReadinessMoved (admittedBdones is s) t := by
  induction is generalizing s with
  | nil =>
    cases he
    exact h.frame rfl
  | cons i is ih =>
    obtain ⟨u, hu, hrest⟩ := exists_exec_of_execAll_cons he
    have hfirst := h.exec hu
    simpa only [admittedBdones, hu] using hfirst.trans (ih hfirst.run hrest)

/-- Settles O36: at the start no buffer is ready, and each event moves readiness as it moves the count. -/
theorem readinessIsTheParityOfCompletions : Obligations.ReadinessIsTheParityOfCompletions := by
  intro is s t hc hm hf hr h _
  have hs : s.ConsumerRun := ⟨hc, hm, by simp [hf]⟩
  obtain ⟨es, htrace, hready⟩ := (hs.execAll h).output
  have hstart : s.bufferReady = false := decide_eq_false hr
  rw [newEvents_of_trace_eq htrace]
  rw [hstart, Bool.toNat_false, Nat.zero_add, Nat.ModEq, Nat.mod_eq_of_lt (Bool.toNat_lt _)] at hready
  rw [← hready, Bool.toNat_eq_one]

end Sys2Proof.Machine
end

section
/-! Two periods with the identity transform between them (45_block_consumer.md R210, R213). -/
namespace Sys2Proof.Machine

variable {i : Instr} {es : List TraceEvent} {s t : State} {n : Nat} {vs : List Sample}

/-- What every line of an expansion keeps holds after the expansion. -/
theorem runTrace_induction {P : State → Prop}
    (hstep : ∀ e ∈ es, ∀ s t, P s → exec (e.resolve s) s = .next t → P t) (hs : P s)
    (h : runTrace es s = .next t) : P t := by
  induction es generalizing s with
  | nil => cases h; exact hs
  | cons e es ih =>
    rw [runTrace] at h
    cases he : exec (e.resolve s) s with
    | next u =>
      rw [he] at h
      exact ih (fun e' he' => hstep e' (List.mem_cons_of_mem e he')) (hstep e List.mem_cons_self s u hs he) h
    | fault r => rw [he] at h; cases h
    | refused r => rw [he] at h; cases h

/-- A drain boundary of a BlockDMA run: a capture buffer was completed, and a swap is due (44_block_producer.md R172,
R175). -/
structure State.AtBoundary (s : State) (n : Nat) : Prop where
  running : s.cst = .running
  blockDMA : s.mode = .blockDMA
  length : s.bufLen = some n
  fillIdx : s.fillIdx = 0
  drainIdx : s.drainIdx.toNat = n
  memory : memWf s.mem = true

/-- From `s` to `t` the producer has not moved: what changed at most is the consumer's, the output or a mark, and the
memory stays canonical. -/
structure ProducerStill (s t : State) : Prop where
  frame : t = { s with
    mem := t.mem, capR := t.capR, pbW := t.pbW, fg := t.fg, blbl := t.blbl, rdata := t.rdata, trace := t.trace,
    faulted := t.faulted, refused := t.refused }
  memory : memWf t.mem = true

theorem ProducerStill.capW (h : ProducerStill s t) : t.capW = s.capW := congrArg (·.capW) h.frame

theorem ProducerStill.atBoundary (h : ProducerStill s t) (hs : s.AtBoundary n) : t.AtBoundary n := by
  have hw := h.memory
  rw [h.frame] at hw ⊢
  exact { hs with memory := hw }

/-- The producer moves in TICK alone (20_memory.md R63). -/
theorem ProducerStill.exec {u : State} (h : ProducerStill s t) (hs : s.AtBoundary n) (hi : ∀ v, i ≠ .tick v)
    (he : exec i t = .next u) : ProducerStill s u := by
  have ht := h.atBoundary hs
  refine ⟨?_, exec_wf h.memory he⟩
  obtain e | hu := exec_next_of_running ht.running he
  · obtain ⟨v, n, rfl, -⟩ | ⟨-, -, -, rfl⟩ | ⟨-, -, rfl⟩ | ⟨-, hu⟩ := resultOf_ok_blockDMA ht.running ht.blockDMA e
    · exact absurd rfl (hi v)
    · rw [h.frame]; rfl
    · rw [h.frame]; rfl
    · rw [hu, h.frame]
  · rw [hu, h.frame]

theorem resolve_bxformId_ne_tick {e : TraceEvent} (he : e ∈ Pseudo.bxformId.expand n) (s : State) (v : Sample) :
    e.resolve s ≠ .tick v := by
  simp only [Pseudo.expand, List.mem_append, List.mem_flatMap, List.mem_cons, List.not_mem_nil, or_false] at he
  obtain (rfl | ⟨k, -, rfl | rfl⟩) | rfl := he <;> simp [TraceEvent.resolve]

theorem runTrace_bxformId_producerStill (hs : s.AtBoundary n)
    (h : runTrace (Pseudo.bxformId.expand n) s = .next t) : ProducerStill s t :=
  runTrace_induction (fun _ he u _ hu => hu.exec hs (resolve_bxformId_ne_tick he u)) ⟨rfl, hs.memory⟩ h

/-- A period leads from one boundary to the next and leaves CAP_R and FG alone. -/
theorem State.AtBoundary.period (hs : s.AtBoundary n) (hlen : vs.length = n)
    (h : execAll (vs.map .tick) s = .next t) : t.AtBoundary n ∧ t.capR = s.capR ∧ t.fg = s.fg := by
  obtain ⟨u, hu, he⟩ :=
    exists_execAll_period hs.running hs.blockDMA hs.length hs.fillIdx (.inl hs.drainIdx) hs.memory hlen
  obtain rfl := Host.Outcome.next.inj (he.symm.trans h)
  have hw := hu.memory
  have hd := hu.drainIdx.trans hlen
  rw [State.completeAt_of_eq (hu.fillIdx.trans hlen)]
  rw [hu.frame, State.drainSwapAt_frame] at hw hd ⊢
  exact ⟨{ hs with fillIdx := rfl, drainIdx := hd, memory := hw }, rfl, rfl⟩

theorem other_eq_of_ne {l l' : Label} (h : l ≠ l') : other l = l' := by
  cases l <;> cases l' <;> simp_all [other]

/-- Settles O39: the first period fills a capture buffer (O35), the transform copies it to the playback buffer that
it publishes (O38), and the second period drains that one (O35). -/
theorem identityTransformDelaysByOnePeriod : Obligations.IdentityTransformDelaysByOnePeriod := by
  intro s n vs ws hc hm hf hr hn hfill hdrain hw hvs hws
  obtain ⟨t, ht, hcaptured, hcapW, -⟩ := onePeriodCapturesAndDrains s n vs hc hm hn hfill (.inl hdrain) hw hvs
  obtain ⟨hbt, hcapR, hfg⟩ := State.AtBoundary.period ⟨hc, hm, hn, hfill, hdrain, hw⟩ hvs ht
  have hready : t.capW = t.capR := by rw [hcapW, hcapR, other_eq_of_ne hr]
  have hgrant : other t.capR = s.capW := by rw [hcapR, other_eq_of_ne hr.symm]
  obtain ⟨u, hu, hcopied, -, -, hpbW, -⟩ := identityTransformCopiesTheBuffer t n hbt.running hbt.blockDMA
    (hfg.trans hf) hready hbt.length hbt.memory
  have hstill := runTrace_bxformId_producerStill hbt hu
  have hbu := hstill.atBoundary hbt
  obtain ⟨w, hw, -, -, -, -, hswap, -⟩ := onePeriodCapturesAndDrains u n ws hbu.running hbu.blockDMA hbu.length
    hbu.fillIdx (.inl hbu.drainIdx) hbu.memory hws
  refine ⟨t, u, w, ht, hu, hw, ?_⟩
  obtain ⟨-, htrace⟩ := hswap hbu.drainIdx
  rw [htrace, hstill.capW, hcapW, hpbW, hcopied, hgrant, hcaptured]

end Sys2Proof.Machine
end

section
/-! The median of the 11 trials, whatever the sort, and the majority that decides it (46_profiler.md R232 to R234). -/
namespace Sys2Proof.Machine

variable {t oh cb : Trials} {l : List Cycles} {c : Cycles} {k : Nat}

theorem sortTrials_perm (t : Trials) : (sortTrials t).Perm (List.ofFn t) :=
  List.perm_insertionSort _ _

theorem sortTrials_ascends (t : Trials) : (sortTrials t).Pairwise (· ≤ ·) :=
  List.pairwise_insertionSort _ _

theorem length_sortTrials (t : Trials) : (sortTrials t).length = 11 :=
  (sortTrials_perm t).length_eq.trans List.length_ofFn

theorem getElem?_sortTrials_five (t : Trials) : (sortTrials t)[5]? = some (median11 t) := by
  have h : 5 < (sortTrials t).length := by rw [length_sortTrials]; decide
  rw [median11, List.getD_eq_getElem _ _ h, List.getElem?_eq_getElem h]

/-- Settles O42: there is only one ascending arrangement of the trials, the one that `sortTrials` makes. -/
theorem medianIsTheMiddleOfTheSort : Obligations.MedianIsTheMiddleOfTheSort := by
  intro t l hperm hasc
  rw [(hperm.trans (sortTrials_perm t).symm).eq_of_pairwise' hasc (sortTrials_ascends t)]
  exact getElem?_sortTrials_five t

theorem getElem_mono_of_ascends (hasc : l.Pairwise (· ≤ ·)) {i j : Nat} (hj : j < l.length) (hij : i ≤ j) :
    l[i] ≤ l[j] :=
  hasc.rel_get_of_le (a := ⟨i, hij.trans_lt hj⟩) (b := ⟨j, hj⟩) hij

/-- In an ascending list of `2 k + 1` values, `k + 1` equal ones reach the middle from either end: the first of them
stands at or before index `k`, the last at or after it. -/
theorem getElem?_middle_of_majority (hasc : l.Pairwise (· ≤ ·)) (hlen : l.length = 2 * k + 1)
    (hmaj : k + 1 ≤ l.count c) : l[k]? = some c := by
  obtain ⟨f, hf⟩ := List.sublist_iff_exists_orderEmbedding_getElem?_eq.mp (List.replicate_sublist_iff.mpr hmaj)
  have hc : ∀ i ≤ k, ∃ h : f i < l.length, l[f i] = c := fun i hi =>
    List.getElem?_eq_some_iff.mp ((hf i).symm.trans (List.getElem?_replicate_of_lt (Nat.lt_succ_of_le hi)))
  obtain ⟨hfirst, hfirst_eq⟩ := hc 0 (Nat.zero_le k)
  obtain ⟨hlast, hlast_eq⟩ := hc k le_rfl
  have hle : k ≤ f k := f.strictMono.le_apply
  have hspread : k + f 0 ≤ f k := f.strictMono.add_le_nat k 0
  have hk : k < l.length := by omega
  refine List.getElem?_eq_some_iff.mpr ⟨hk, BitVec.le_antisymm ?_ ?_⟩
  · exact hlast_eq ▸ getElem_mono_of_ascends hasc hlast hle
  · exact hfirst_eq ▸ getElem_mono_of_ascends hasc hk (by omega)

theorem median11_of_majority (hmaj : 6 ≤ (List.ofFn t).count c) : median11 t = c := by
  rw [← (sortTrials_perm t).count_eq] at hmaj
  exact Option.some.inj ((getElem?_sortTrials_five t).symm.trans
    (getElem?_middle_of_majority (sortTrials_ascends t) (length_sortTrials t) hmaj))

/-- Settles O43: the six equal trials are a majority, of each set of trials. -/
theorem sixEqualTrialsDecideTheMedian : Obligations.SixEqualTrialsDecideTheMedian :=
  ⟨fun _ _ => median11_of_majority, fun oh cb o c ho hc => by
    rw [netLatency, median11_of_majority ho, median11_of_majority hc]⟩

/-- The difference of the medians, read as numbers (46_profiler.md R233). -/
theorem netLatency_toNat (oh cb : Trials) :
    (netLatency oh cb).toNat = (2 ^ 32 + (median11 cb).toNat - (median11 oh).toNat) % 2 ^ 32 := by
  rw [netLatency, BitVec.toNat_sub, Nat.sub_add_comm (median11 oh).isLt.le]

end Sys2Proof.Machine
end

section
/-! MEAS_S and MEAS_B (46_profiler.md R230, R231, R235). -/
namespace Sys2Proof.Machine

variable {s t : State} {body : Result} {oh cb : Trials} {c : FatalCause}

theorem whenIdle_of_idle (hc : s.cst = .unconf ∨ s.cst = .configured) : whenIdle s body = body := by
  obtain hc | hc := hc <;> simp [whenIdle, hc]

theorem whenIdle_of_fatal (hc : s.cst = .fatal) : whenIdle s body = .ignored := by
  simp [whenIdle, hc]

theorem whenIdle_of_running (hc : s.cst = .running) : whenIdle s body = .refuse .foregroundBusy := by
  simp [whenIdle, hc]

theorem measSampleRule_of_idle (hc : s.cst = .unconf ∨ s.cst = .configured) :
    measSampleRule oh cb s = .ok (s.measure oh cb) :=
  whenIdle_of_idle hc

theorem measBlockRule_of_idle (hc : s.cst = .unconf ∨ s.cst = .configured) :
    measBlockRule oh cb s = if s.len = 0 then .fatal .noLength else .ok (s.measure oh cb) :=
  whenIdle_of_idle hc

/-- Settles O40: CST says what the rule answers. -/
theorem measSFollowsItsRule : Obligations.MeasSFollowsItsRule := fun s =>
  ⟨decode_encode .measS, fun hc => exec_of_ok (measSampleRule_of_idle hc),
    fun oh cb hc => ⟨s.measure oh cb, measSampleRule_of_idle hc, netLatency_toNat oh cb⟩,
    fun hc => exec_of_ignored (whenIdle_of_fatal hc), fun hc => refuses_of_refuse (whenIdle_of_running hc)⟩

/-- Settles O41: CST and LEN say what the rule answers. -/
theorem measBFollowsItsRule : Obligations.MeasBFollowsItsRule := by
  intro s
  have hmeasure {oh cb : Trials} (hc : s.cst = .unconf ∨ s.cst = .configured) (hl : s.len ≠ 0) :
      measBlockRule oh cb s = .ok (s.measure oh cb) := by
    rw [measBlockRule_of_idle hc, if_neg hl]
  refine ⟨decode_encode .measB, fun hc hl => exec_of_ok (hmeasure hc hl),
    fun oh cb hc hl => ⟨s.measure oh cb, hmeasure hc hl, netLatency_toNat oh cb⟩,
    fun hc hl => raisesFatal_of_fatal (c := .noLength) ?_,
    fun hc => exec_of_ignored (whenIdle_of_fatal hc), fun hc => refuses_of_refuse (whenIdle_of_running hc)⟩
  rw [resultOf, measBlockRule_of_idle hc, if_pos hl]

theorem measSampleRule_ne_fatal : measSampleRule oh cb s ≠ .fatal c := fun h => by
  simp [measSampleRule_of_idle (whenIdle_fatal h)] at h

theorem measBlockRule_fatal (h : measBlockRule oh cb s = .fatal c) : c = .noLength := by
  rw [measBlockRule_of_idle (whenIdle_fatal h)] at h
  split_ifs at h
  exact (Result.fatal.inj h).symm

/-- Settles O44: by the outcome of the rule, which is Fatal with one cause at most and never a fault. -/
theorem profilerTouchesOnlyItsResult : Obligations.ProfilerTouchesOnlyItsResult := by
  refine fun s t => ⟨fun h => ?_, fun h => ?_⟩ <;> rw [exec_eq_settle] at h
  · obtain e | ⟨-, rfl⟩ | ⟨c, e, -⟩ | ⟨q, -, rfl⟩ | ⟨q, e, -⟩ := settle_next h
    · obtain ⟨-, rfl⟩ := measSampleRule_ok e
      rfl
    · rfl
    · exact absurd e measSampleRule_ne_fatal
    · rfl
    · exact absurd e (whenIdle_ne_fault (by simp))
  · obtain e | ⟨-, rfl⟩ | ⟨c, e, rfl⟩ | ⟨q, -, rfl⟩ | ⟨q, e, -⟩ := settle_next h
    · obtain ⟨-, -, rfl⟩ := measBlockRule_ok e
      exact .inl rfl
    · exact .inl rfl
    · obtain rfl := measBlockRule_fatal e
      exact .inr rfl
    · exact .inl rfl
    · exact absurd e (whenIdle_ne_fault (by split_ifs <;> simp))

end Sys2Proof.Machine
end

section
/-! The fatal entry and the FATAL state (60_exceptions.md R250 to R253). -/
namespace Sys2Proof.Machine

variable {i : Instr} {s t : State} {c : FatalCause}

/-- Settles O45: `exec` settles the outcome of the event's rule, and a fatal outcome writes FCAUSE and CST. -/
theorem fatalEntryIsPrecise : Obligations.FatalEntryIsPrecise := fun _ _ _ => raisesFatal_of_fatal

/-- In the admission table's FATAL column every event is ignored (30_encoding.md R85). -/
theorem admission_fatal (i : Instr) (s : State) : admission i .fatal s = .ignored := by
  cases i <;> rfl

theorem resultOf_of_fatal (hc : s.cst = .fatal) : resultOf i s = .ignored := by
  have hcol : s.column = some .fatal := by simp [State.column, hc]
  have ha := admission_agrees i hcol
  rwa [admission_fatal] at ha

theorem exec_of_fatal (hc : s.cst = .fatal) : exec i s = .next s := exec_of_ignored (resultOf_of_fatal hc)

/-- Settles O46: no event changes a FATAL state, and a wait or a refused word leaves CST. -/
theorem fatalAbsorbsEveryEvent : Obligations.FatalAbsorbsEveryEvent := by
  intro s hc
  refine ⟨fun i => ⟨resultOf_of_fatal hc, exec_of_fatal hc⟩, fun w e hd => resultOfWord_of_decode_error hd s,
    fun t h hne => ?_⟩
  obtain hp | hp | ⟨w, i, -, -, he⟩ | ht := step_next_input h
  · exact .inl hp
  · exact .inr hp
  · rw [exec_of_fatal (s := s.takeInput) hc] at he
    obtain rfl := Host.Outcome.next.inj he
    exact absurd hc hne
  · exact absurd ((congrArg (·.cst) ht).trans hc) hne

/-! ## Where FATAL is entered from -/

@[simp] theorem State.tickPhases_cst (s : State) (n : Nat) (v : Sample) :
    ((s.drainPhase n).capturePhase n v).cst = s.cst := by
  rw [State.tickPhases_frame]

/-- CST is written by CFG and RUN alone, and neither writes FATAL (41_control.md R100, R103). -/
theorem effect_cst_ne_fatal (i : Instr) (hc : s.cst ≠ .fatal) : (effect i s).cst ≠ .fatal := by
  cases i
  case cfg m r c l => simp [effect]
  case run => simp [effect]
  case tick v => simp only [effect]; split_ifs <;> simpa using hc
  case bpoll => simp only [effect]; split_ifs <;> simpa using hc
  case sdone y => simp only [effect]; split_ifs <;> simpa using hc
  all_goals simpa [effect] using hc

/-- Only a fatal outcome of the event's rule leads into FATAL. -/
theorem exists_resultOf_fatal (hs : s.cst ≠ .fatal) (h : exec i s = .next t) (ht : t.cst = .fatal) :
    ∃ c, resultOf i s = .fatal c := by
  rw [exec_eq_settle] at h
  obtain e | ⟨-, rfl⟩ | ⟨c, e, -⟩ | ⟨q, -, rfl⟩ | ⟨q, -, rfl⟩ := settle_next h
  · rw [resultOf_ok_eq_effect e] at ht
    exact absurd ht (effect_cst_ne_fatal i hs)
  · exact absurd ht hs
  · exact ⟨c, e⟩
  · exact absurd ht hs
  · exact absurd ht hs

theorem cfgRule_fatal_unconf {m : Mode} {r : BitVec 4} {q : BitVec 2} {l : BitVec 3}
    (h : cfgRule m r q l s = .fatal c) : s.cst = .unconf := by
  obtain hu | hn := resultOf_fatal (i := .cfg m r q l) h
  · exact hu
  · rw [cfgRule_of_configured_or_running (.inl hn)] at h
    cases h

/-- The events that can raise Fatal (60_exceptions.md R251). -/
theorem resultOf_fatal_event (h : resultOf i s = .fatal c) :
    (∃ m r q l, i = .cfg m r q l ∧ s.cst = .unconf) ∨ i = .run ∨ i = .measB := by
  cases i with
  | cfg m r q l => exact .inl ⟨m, r, q, l, rfl, cfgRule_fatal_unconf h⟩
  | run => exact .inr (.inl rfl)
  | measB => exact .inr (.inr rfl)
  | tick v => exact absurd h tickRule_ne_fatal
  | sdone y => exact absurd h sdoneRule_ne_fatal
  | measS => exact absurd h measSampleRule_ne_fatal
  | xrd sel idx => exact absurd h (engineAccess_ne_fatal (by simp))
  | xwr idx v => exact absurd h (engineAccess_ne_fatal (by simp))
  | bpoll => exact absurd h (inMode_ne_fatal (by split_ifs <;> simp))
  | ptrig => exact absurd h (inMode_ne_fatal (by split_ifs <;> simp))
  | cdone x => exact absurd h (inMode_ne_fatal (by split_ifs <;> simp))
  | bdone => exact absurd h (inMode_ne_fatal (by split_ifs <;> simp))

theorem State.timingSourceOn_of_not_running (hc : s.cst ≠ .running) : s.timingSourceOn = false := by
  simp [State.timingSourceOn, hc]

/-- Settles O47: into FATAL leads a fatal outcome only, which three events have, all before the run. -/
theorem fatalIsEnteredOnlyBeforeRunning : Obligations.FatalIsEnteredOnlyBeforeRunning := by
  intro i s t hs h ht
  obtain ⟨c, hr⟩ := exists_resultOf_fatal hs h ht
  have hidle := resultOf_fatal hr
  exact ⟨(resultOf_fatal_event hr).imp_right fun hi => ⟨hi, hidle⟩,
    State.timingSourceOn_of_not_running (by obtain hc | hc := hidle <;> simp [hc])⟩

end Sys2Proof.Machine
end

section
/-! The wait, RST and power-on, and the marks FAULTED and REFUSED (60_exceptions.md R260, R261, R277;
70_reset_and_hazards.md R290, R305). -/
namespace Sys2Proof.Machine

variable {i : Instr} {s t : State}

/-- Settles O5: the port finds nothing to deliver. -/
theorem noInputChangesNothing : Obligations.NoInputChangesNothing := fun s hp => by
  rw [step, portStep, hp]

theorem effect_refused (i : Instr) (s : State) : (effect i s).refused = s.refused := by
  obtain ⟨_, _, _, h⟩ := effect_recast s i
  exact congrArg (·.refused) (h s.faulted s.refused s.capRace s.pbRace s.pending s.trace s.draws (.inl rfl))

theorem exec_refused (hf : s.refused = true) (h : exec i s = .next t) : t.refused = true := by
  rw [exec_eq_settle] at h
  obtain e | ⟨-, rfl⟩ | ⟨c, -, rfl⟩ | ⟨q, -, rfl⟩ | ⟨q, -, rfl⟩ := settle_next h
  · rw [resultOf_ok_eq_effect e, effect_refused, hf]
  · exact hf
  · exact hf
  · rfl
  · exact hf

/-- Only power-on clears a mark (70_reset_and_hazards.md R290). -/
theorem step_marks (h : step s = .next t) (hp : s.pending.head? ≠ some .powerOn) :
    (s.faulted = true → t.faulted = true) ∧ (s.refused = true → t.refused = true) := by
  obtain ⟨-, rfl⟩ | ⟨rest, -, rfl⟩ | ⟨rest, hpow, -⟩ | ⟨w, rest, -, ⟨i, -, he⟩ | ⟨e, -, rfl⟩⟩ := step_next h
  · exact ⟨id, id⟩
  · exact ⟨id, id⟩
  · exact absurd (by rw [hpow, List.head?_cons]) hp
  · exact ⟨fun hf => exec_faulted (s := s.takeInput) hf he, fun hr => exec_refused (s := s.takeInput) hr he⟩
  · exact ⟨id, fun _ => rfl⟩

/-- Settles O50: a fault and a refusal each set their mark, RST and power-on lead to the reset tuple, and nothing else
ends RUNNING or FATAL. -/
theorem marksAreSetAndNeverCleared : Obligations.MarksAreSetAndNeverCleared := by
  refine ⟨fun i s r h => (faults_of_fault h).2, fun i s r h => (refuses_of_refuse h).2, fun s t => step_marks,
    fun s rest hp => ⟨_, step_of_cons hp, rfl, rfl, rfl⟩, fun s rest hp => ⟨_, step_of_cons hp, rfl, rfl, rfl⟩,
    fun s t hc h hne => ?_⟩
  obtain hc | hc := hc <;> rw [hc] at hne
  · obtain ⟨-, -, hend⟩ := runningEndsOnlyByReset s hc
    exact hend t h hne
  · obtain ⟨-, -, hend⟩ := fatalAbsorbsEveryEvent s hc
    exact hend t h hne

end Sys2Proof.Machine
end

section
/-! The role invariant of BlockDMA under the timing premise (45_block_consumer.md R212; 70_reset_and_hazards.md R300): a
granted buffer is neither filled nor drained as long as no capture completes under the grant. -/
namespace Sys2Proof.Machine

variable {i : Instr} {s t : State} {n : Nat}

theorem ne_other (l : Label) : l ≠ other l := by cases l <;> decide

/-- What the role invariant says of a RUNNING BlockDMA state whose buffer length is `n`. -/
structure State.Roles (s : State) (n : Nat) : Prop where
  length : s.bufLen = some n
  fillIdx_lt : s.fillIdx.toNat < n
  inStep : s.drainIdx.toNat = s.fillIdx.toNat ∨ (s.fillIdx = 0 ∧ s.drainIdx.toNat = n)
  noCapRace : s.capRace = false
  noPbRace : s.pbRace = false
  published : s.pbW = s.capR
  granted : s.fg = .bBusy → s.blbl = other s.capR ∧ s.capW = s.capR ∧ s.drainClear n
  ready : s.fg = .bPoll → s.capW = s.capR → s.drainClear n

theorem State.roleInv_iff : s.RoleInv ↔ (s.cst = .running → s.mode = .blockDMA → ∃ n, s.Roles n) :=
  forall₂_congr fun _ _ => exists_congr fun _ =>
    ⟨fun ⟨hn, hf, hd, hc, hp, hw, hg, hr⟩ => ⟨hn, hf, hd, hc, hp, hw, hg, hr⟩,
      fun ⟨hn, hf, hd, hc, hp, hw, hg, hr⟩ => ⟨hn, hf, hd, hc, hp, hw, hg, hr⟩⟩

theorem State.Roles.roleInv (h : s.Roles n) : s.RoleInv := State.roleInv_iff.mpr fun _ _ => ⟨n, h⟩

theorem State.roleInv_of_not_running (hc : s.cst ≠ .running) : s.RoleInv := fun h => absurd h hc

theorem State.roleInv_of_not_blockDMA (hm : s.mode ≠ .blockDMA) : s.RoleInv := fun _ h => absurd h hm

/-! ## Under a grant -/

theorem State.Roles.capW_ne_blbl (h : s.Roles n) (hf : s.fg = .bBusy) : s.capW ≠ s.blbl := by
  obtain ⟨hb, hw, -⟩ := h.granted hf
  rw [hb, hw]
  exact ne_other _

theorem State.Roles.pbR_ne_blbl (h : s.Roles n) (hf : s.fg = .bBusy) (hd : s.drainIdx.toNat ≠ n) :
    s.pbR ≠ s.blbl := by
  obtain ⟨hb, -, hclear⟩ := h.granted hf
  rw [hb, hclear.resolve_left hd]
  exact ne_other _

/-! ## A tick -/

/-- A tick drains the element with the index of the one that it fills. -/
theorem State.Roles.drainStart_eq (h : s.Roles n) : s.drainStart n = s.fillIdx := by
  have hf := h.fillIdx_lt
  unfold State.drainStart
  obtain hd | ⟨hz, hd⟩ := h.inStep
  · rw [if_neg (by omega), BitVec.eq_of_toNat_eq hd]
  · rw [if_pos hd, hz]

/-- With the drain clear, a tick drains the buffer that the consumer published last. -/
theorem State.Roles.drainLabel_eq (h : s.Roles n) (hd : s.drainClear n) : s.drainLabel n = s.capR := by
  unfold State.drainLabel
  split_ifs with hswap
  · exact h.published
  · exact hd.resolve_left hswap

/-- A tick that completes no capture under a grant. -/
theorem State.Roles.tickPhases (h : s.Roles n) (hp : s.fg = .bBusy → (s.fillIdx + 1).toNat ≠ n) (v : Sample) :
    ((s.drainPhase n).capturePhase n v).Roles n := by
  have hfill := State.tickPhases_fillIdx_lt h.length h.fillIdx_lt v
  rw [State.tickPhases_eq, h.drainStart_eq] at hfill ⊢
  refine { h with fillIdx_lt := hfill, inStep := ?_, noCapRace := ?_, noPbRace := ?_, granted := ?_, ready := ?_ }
  · dsimp only
    split_ifs with hfull
    · exact .inr ⟨rfl, hfull⟩
    · exact .inl rfl
  · simp only [h.noCapRace, Bool.false_or, Bool.and_eq_false_imp, decide_eq_true_eq, decide_eq_false_iff_not]
    exact h.capW_ne_blbl
  · simp only [h.noPbRace, Bool.false_or, Bool.and_eq_false_imp, decide_eq_true_eq, decide_eq_false_iff_not]
    intro hf
    obtain ⟨hb, -, hd⟩ := h.granted hf
    rw [hb, h.drainLabel_eq hd]
    exact ne_other _
  · intro hf
    obtain ⟨hb, hw, hd⟩ := h.granted hf
    exact ⟨hb, by simp only [hp hf, if_false, hw], .inr (h.drainLabel_eq hd)⟩
  · intro hf hw
    by_cases hfull : (s.fillIdx + 1).toNat = n
    · exact .inl hfull
    · exact .inr (h.drainLabel_eq (h.ready hf (by simpa only [hfull, if_false] using hw)))

/-- Under the timing premise a tick that completes a capture finds no grant. -/
theorem TimingPremise.not_full (h : TimingPremise s ((s.drainPhase n).capturePhase n v)) (hf : s.fg = .bBusy) :
    (s.fillIdx + 1).toNat ≠ n := by
  intro hfull
  have hnew : newEvents s ((s.drainPhase n).capturePhase n v) = s.tickOutput n :=
    newEvents_of_trace_eq (by rw [State.tickPhases_eq])
  have hdone : .capDone s.capW ∈ s.tickOutput n := by
    simp only [State.tickOutput, hfull, if_true, List.mem_append, List.mem_singleton, or_true]
  have := List.all_eq_true.mp (hnew ▸ h hf) _ hdone
  simp [OutEvent.isCapDone] at this

/-! ## The consumer -/

theorem State.Roles.grant (h : s.Roles n) (hf : s.fg = .bPoll) (hw : s.capW = s.capR) : s.grant.Roles n :=
  { h with
    granted := fun _ => ⟨rfl, hw, h.ready hf hw⟩
    ready := nofun }

/-- The return moves CAP_R away from CAP_W, so no buffer is ready after it. -/
theorem State.Roles.publish (h : s.Roles n) (hf : s.fg = .bBusy) : s.publish.Roles n := by
  obtain ⟨hb, hw, -⟩ := h.granted hf
  refine { h with published := rfl, granted := nofun, ready := fun _ he => ?_ }
  rw [State.publish_capW, State.publish_capR, hw, hb] at he
  exact absurd he (ne_other _)

/-! ## Every step -/

/-- The run start: both indices are at 0, and no buffer is ready (41_control.md R104). -/
theorem State.Inv.runStart_roleInv (hi : s.Inv) (hc : s.cst = .unconf ∨ s.cst = .configured) (hm : s.mode ≠ .none) :
    ({ s.runInit with cst := .running, fg := startForeground s.mode } : State).RoleInv := by
  rw [State.roleInv_iff]
  intro hc' hb
  obtain ⟨n, hn, hf, -⟩ := (hi.runStart hc hm).indices hc' hb
  have hfg : startForeground s.mode = .bPoll := congrArg startForeground hb
  exact ⟨n, hn, hf, .inl rfl, rfl, rfl, rfl, by simp [hfg], nofun⟩

theorem State.RoleInv.effect (h : s.RoleInv) (hi : s.Inv) (hr : resultOf i s = .ok t) (hp : TimingPremise s t) :
    t.RoleInv := by
  cases i with
  | cfg m r c l =>
    obtain ⟨-, -, -, -, rfl⟩ := cfgRule_ok hr
    exact State.roleInv_of_not_running (by simp)
  | run =>
    obtain ⟨hc, hm, rfl⟩ := runRule_ok hr
    exact hi.runStart_roleInv hc hm
  | tick v =>
    obtain ⟨hc, ⟨hm, -, rfl⟩ | ⟨hm, n, hn, -, -, rfl⟩⟩ := tickRule_ok hr
    · exact State.roleInv_of_not_blockDMA (by simp [hm])
    · obtain ⟨k, hk⟩ := State.roleInv_iff.mp h hc hm
      obtain rfl := Option.some.inj (hn.symm.trans hk.length)
      exact (hk.tickPhases hp.not_full v).roleInv
  | bpoll =>
    obtain ⟨hc, hm, hf, ⟨hw, rfl⟩ | ⟨-, rfl⟩⟩ := bpollRule_ok hr
    · obtain ⟨n, hn⟩ := State.roleInv_iff.mp h hc hm
      exact (hn.grant hf hw).roleInv
    · exact h
  | bdone =>
    obtain ⟨hc, hm, hf, rfl⟩ := bdoneRule_ok hr
    obtain ⟨n, hn⟩ := State.roleInv_iff.mp h hc hm
    exact (hn.publish hf).roleInv
  | ptrig =>
    obtain ⟨-, hm, -, rfl⟩ := ptrigRule_ok hr
    exact State.roleInv_of_not_blockDMA (by simp [hm])
  | cdone x =>
    obtain ⟨-, hm, -, rfl⟩ := cdoneRule_ok hr
    exact State.roleInv_of_not_blockDMA (by simp [hm])
  | sdone y =>
    obtain ⟨-, ⟨hm, -, rfl⟩ | ⟨hm, -, rfl⟩⟩ := sdoneRule_ok hr <;>
      exact State.roleInv_of_not_blockDMA (by simp [hm])
  | measS =>
    obtain ⟨hc, rfl⟩ := measSampleRule_ok hr
    exact State.roleInv_of_not_running (by obtain hc | hc := hc <;> simp [hc])
  | measB =>
    obtain ⟨hc, -, rfl⟩ := measBlockRule_ok hr
    exact State.roleInv_of_not_running (by obtain hc | hc := hc <;> simp [hc])
  | xrd | xwr =>
    obtain rfl := resultOf_ok_eq_effect hr
    exact h

theorem State.RoleInv.exec (h : s.RoleInv) (hi : s.Inv) (he : exec i s = .next t) (hp : TimingPremise s t) :
    t.RoleInv := by
  rw [exec_eq_settle] at he
  obtain e | ⟨-, rfl⟩ | ⟨c, -, rfl⟩ | ⟨q, -, rfl⟩ | ⟨q, -, rfl⟩ := settle_next he
  · exact h.effect hi e hp
  · exact h
  · exact State.roleInv_of_not_running (by simp)
  · exact h
  · exact h

theorem State.RoleInv.step (h : s.RoleInv) (hi : s.Inv) (hs : step s = .next t) (hp : TimingPremise s t) :
    t.RoleInv := by
  obtain ⟨-, rfl⟩ | ⟨_, -, rfl⟩ | ⟨_, -, rfl⟩ | ⟨_, _, -, ⟨i, -, he⟩ | ⟨_, -, rfl⟩⟩ := step_next hs
  · exact h
  · exact State.roleInv_of_not_running nofun
  · exact State.roleInv_of_not_running nofun
  · exact State.RoleInv.exec (s := s.takeInput) h (hi.frame rfl) he hp
  · exact h

/-- Settles O14: every step that keeps the premise keeps the invariant, and under a grant CAP_W is CAP_R and PB_R, unless
a swap is due, is CAP_R too, while the granted label is the other one. -/
theorem premisedStepKeepsTheRoleInvariant : Obligations.PremisedStepKeepsTheRoleInvariant := by
  refine ⟨fun s t hi h hs hp => h.step hi hs hp, fun s h hc hm => ?_⟩
  obtain ⟨n, hn⟩ := State.roleInv_iff.mp h hc hm
  refine ⟨hn.noCapRace, hn.noPbRace, fun hf => ⟨hn.capW_ne_blbl hf, fun hd => hn.pbR_ne_blbl hf ?_⟩⟩
  rintro rfl
  exact hd hn.length

/-! ## The whole run -/

theorem State.Inv.run_roleInv (hi : s.Inv) (hc : s.cst = .configured) (he : Machine.exec .run s = .next t) :
    t.RoleInv := by
  have hc' : s.cst ≠ .running := by simp [hc]
  refine (State.roleInv_of_not_running hc').exec hi he fun hf => ?_
  simp [hi.fg_eq_none hc'] at hf

theorem PremisedRun.inv_and_roleInv (hs : s.Inv ∧ s.RoleInv) (h : PremisedRun s t) : t.Inv ∧ t.RoleInv := by
  induction h with
  | start => exact hs
  | next _ hstep hp ih =>
    obtain ⟨hi, hr⟩ := ih
    exact ⟨stepKeepsTheInvariant _ _ hi hstep, hr.step hi hstep hp⟩

/-- Settles O15: the run starts in the role invariant, and every step of a premised run keeps it. -/
theorem premisedRunIsRaceFree : Obligations.PremisedRunIsRaceFree := by
  intro u s t hi hc _ he hrun hct hmt
  obtain ⟨-, ht⟩ := hrun.inv_and_roleInv ⟨exec_inv hi he, hi.run_roleInv hc he⟩
  obtain ⟨n, hn⟩ := State.roleInv_iff.mp ht hct hmt
  exact ⟨hn.noCapRace, hn.noPbRace, hn.capW_ne_blbl⟩

end Sys2Proof.Machine
end

section
/-! From UNCONF to the start of a run: CFG, measurements, RUN (70_reset_and_hazards.md R292, R294). -/
namespace Sys2Proof.Machine

variable {i : Instr} {s t : State}

theorem exec_cfg_of_valid (hc : s.cst = .unconf) {m : Mode} {r : BitVec 4} {c : BitVec 2} {l : BitVec 3}
    (hsrc : c.toNat ≤ 1) (hlen : m = .blockDMA → 1 ≤ l.toNat ∧ l.toNat ≤ 5) (hrate : r.toNat ≤ 8) :
    exec (.cfg m r c l) s = .next (s.configure m r c l) :=
  exec_of_ok (by rw [resultOf, cfgRule_of_unconf hc, if_pos hsrc, if_pos hlen, if_pos hrate])

theorem exec_run_of_idle (hc : s.cst = .unconf ∨ s.cst = .configured) (hm : s.mode ≠ .none) :
    exec .run s = .next { s.runInit with cst := .running, fg := startForeground s.mode } :=
  exec_of_ok (by rw [resultOf, runRule_of_idle hc, if_neg hm])

/-- A measurement before the run writes MRES and counts the draws (46_profiler.md R235). -/
theorem exec_measurement (hc : s.cst = .unconf ∨ s.cst = .configured) (hi : i = .measS ∨ (i = .measB ∧ s.len ≠ 0)) :
    ∃ x d, exec i s = .next { s with mres := x, draws := d } := by
  obtain rfl | ⟨rfl, hl⟩ := hi
  · exact ⟨_, _, exec_of_ok (measSampleRule_of_idle hc)⟩
  · exact ⟨_, _, exec_of_ok ((measBlockRule_of_idle hc).trans (if_neg hl))⟩

/-- So do any number of measurements: each leaves CST and LEN, by which the next one is admitted. -/
theorem exists_execAll_measurements {is : List Instr} (hc : s.cst = .unconf ∨ s.cst = .configured)
    (hi : ∀ i ∈ is, i = .measS ∨ (i = .measB ∧ s.len ≠ 0)) :
    ∃ x d, execAll is s = .next { s with mres := x, draws := d } := by
  induction is generalizing s with
  | nil => exact ⟨s.mres, s.draws, rfl⟩
  | cons i is ih =>
    rw [List.forall_mem_cons] at hi
    obtain ⟨x, d, he⟩ := exec_measurement hc hi.1
    rw [execAll_cons he]
    exact ih (s := { s with mres := x, draws := d }) hc hi.2

/-- RUN leads into a run from UNCONF and CONFIGURED alone (41_control.md R103, 60_exceptions.md R252). -/
theorem idle_of_exec_run (hs : s.cst ≠ .running) (he : exec .run s = .next t) (ht : t.cst = .running) :
    s.cst = .unconf ∨ s.cst = .configured := by
  cases hc : s.cst with
  | unconf => exact .inl rfl
  | configured => exact .inr rfl
  | running => exact absurd hc hs
  | fatal =>
    obtain rfl := Host.Outcome.next.inj ((exec_of_fatal hc).symm.trans he)
    exact absurd ht hs

/-- Settles O57: CFG empties the memory, and neither a measurement nor RUN stores anything; before a run the invariant has
every buffer element at 0. -/
theorem bootReachesTheRunStart : Obligations.BootReachesTheRunStart := by
  refine ⟨fun m r c l ms s hc hm hsrc hrate hlen hms => ?_, fun s t hi hs he ht a => ?_⟩
  · have hcfg := exec_cfg_of_valid hc hsrc hlen hrate
    have hl (h : 1 ≤ l.toNat ∧ l.toNat ≤ 5) : (s.configure m r c l).len ≠ 0 := by
      rw [State.configure_len, if_pos (validLen_iff.mpr h)]
      exact fun h0 => by simp [h0] at h
    obtain ⟨x, d, hmeas⟩ := exists_execAll_measurements (s := s.configure m r c l) (.inr rfl)
      fun i hi => (hms i hi).imp_right (And.imp_right hl)
    have hrun := exec_run_of_idle (s := { s.configure m r c l with mres := x, draws := d }) (.inr rfl) hm
    have hboot := (execAll_cons hcfg).trans ((execAll_append hmeas).trans (execAll_singleton hrun))
    exact ⟨_, hboot, rfl, rfl, rfl, rfl, rfl, fun _ => rfl, rfl, rfl, rfl, rfl, rfl, rfl, rfl, rfl, rfl, rfl, rfl, rfl,
      rfl, rfl⟩
  · have hmem : t.mem = s.mem := (exec_mem he).resolve_right (by simp)
    exact (State.memRead_eq_of_mem hmem a).trans (hi.cleared (idle_of_exec_run hs he ht) a)

end Sys2Proof.Machine
end

section
/-! A word placed by `withFetchWord` (log 15). -/
namespace Sys2Proof.Machine

/-- `decodeTableWord` reads what `decode` reads from the word that is placed. -/
theorem decode_tableWord_of_decodeTableWord {nbits w : Nat} {i : Instr} (h : decodeTableWord nbits w = some i) :
    decode (tableWord nbits w) = .ok i := by
  unfold decodeTableWord at h
  split_ifs at h
  cases hd : decode (tableWord nbits w) with
  | ok j => simpa [hd, Except.toOption] using h
  | error e => simp [hd, Except.toOption] at h

/-- Settles O6: the placed word is the head of the pending inputs, and taking it gives back the state as it was. -/
theorem placedWordRunsNext : Obligations.PlacedWordRunsNext := by
  intro s nbits w i h
  rw [step_of_cons (s := s.withFetchWord nbits w) rfl,
    deliver_word_of_decode_ok (decode_tableWord_of_decodeTableWord h)]
  rfl

end Sys2Proof.Machine
end

section
/-! RUNNING states that the spec excludes (10_state.md R13, R15, 20_memory.md R52; logs 11 and 12). -/
namespace Sys2Proof.Machine

variable {i : Instr} {s : State}

theorem withLen_of_none (hn : s.bufLen = none) (body : Nat → Result) :
    withLen s body = .undefined .lengthUndefined := by
  rw [withLen, hn]

theorem exec_of_undefined {f : Fault} (h : resultOf i s = .undefined f) : exec i s = .fault f := by
  rw [exec_eq_settle, h, settle]

theorem engineAccess_of_noLength (hc : s.cst = .running) (hm : s.mode = .blockDMA) (hf : s.fg = .bBusy)
    (hn : s.bufLen = none) (idx : BitVec 7) (body : Result) :
    engineAccess s idx body = .undefined .lengthUndefined := by
  rw [engineAccess, inMode_of_running hc hm, if_neg (not_not.mpr hf), withLen_of_none hn]

/-- Settles O21: the index check of the two phases, N where it is read, and the dispatch by mode. -/
theorem excludedStatesStopByName : Obligations.ExcludedStatesStopByName := by
  refine fun v y sel idx s hc => ⟨fun n hm hn hr => faults_of_fault ?_, fun hm hn => exec_of_undefined ?_,
    fun hm hf hn => ⟨exec_of_undefined (engineAccess_of_noLength hc hm hf hn idx _),
      exec_of_undefined (engineAccess_of_noLength hc hm hf hn idx _)⟩,
    fun hm => ⟨exec_of_undefined ?_, exec_of_undefined ?_⟩⟩
  · rw [resultOf, tickRule_of_blockDMA hc hm, tickBlock, withLen, hn]
    exact if_pos hr
  · rw [resultOf, tickRule_of_blockDMA hc hm, tickBlock, withLen_of_none hn]
  · rw [resultOf, tickRule, whenRunning_of_running hc, hm]
  · rw [resultOf, sdoneRule, whenRunning_of_running hc, hm]

end Sys2Proof.Machine
end
